-- ==== Sys2Proof/Word.lean ====
section
/-! DEFINITION. The plain types that every other file uses: characters of the two links, bay numbers, times of the
timebase, and a table of a fixed number of like things. -/

namespace Sys2Proof

/-- One character of a link: 8 data bits (R120, R135). -/
abbrev Byte := BitVec 8

/-- One of the sixteen bays. Bay n of the manual (1 to 16) is the `Bay` with value n - 1. -/
abbrev Bay := Fin 16

/-- A time of the timebase (R154), as a count of milliseconds since the last reset: the seconds count is the quotient by
1,000 and the millisecond part the remainder. -/
abbrev Time := Nat

/-- The manual's number of a bay, 1 to 16. -/
def bayNumber (b : Bay) : Nat := b.val + 1

/-- The sixteen bays in ascending number. -/
def allBays : List Bay := [0, 1, 2, 3, 4, 5, 6, 7, 8, 9, 10, 11, 12, 13, 14, 15]

/-- A fixed number of like things, numbered from 0. -/
structure Table (n : Nat) (α : Type) where
  list : List α
  size : list.length = n
deriving DecidableEq, Repr

/-- The item of number `i`. -/
def Table.get {n : Nat} {α : Type} (t : Table n α) (i : Fin n) : α :=
  t.list[i.val]'(by rw [t.size]; exact i.isLt)

/-- The table with item `i` replaced. -/
def Table.set {n : Nat} {α : Type} (t : Table n α) (i : Fin n) (a : α) : Table n α where
  list := t.list.set i.val a
  size := by rw [List.length_set]; exact t.size

/-- The table whose items are all `a`. -/
def Table.replicate (n : Nat) {α : Type} (a : α) : Table n α where
  list := List.replicate n a
  size := List.length_replicate

/-- The table whose item `i` is `f i`. -/
def Table.ofFn {n : Nat} {α : Type} (f : Fin n → α) : Table n α where
  list := List.ofFn f
  size := List.length_ofFn

end Sys2Proof
end

