-- ==== Sys2Proof/Syntax.lean ====
section
/-! DEFINITION. The commands of the part: one constructor for each row of spec/opcode_table.json, in the table's order. -/

namespace Sys2Proof

/-- The steps of the part. A request, and a step of the Report Decoder, has no operand: it takes the oldest frame of its
receive queue (R104, R139). The other operands are what the spec's text gives the event. -/
inductive Instr where
  /-- POWER_ON_RESET (R25): RESETN. -/
  | powerOnReset
  /-- READ_STATUS (R156). -/
  | readStatus
  /-- READ_BAY (R157). -/
  | readBay
  /-- READ_TABLE (R158). -/
  | readTable
  /-- WRITE_PROFILE_HEAD (R28). -/
  | writeProfileHead
  /-- WRITE_PROFILE_STEP (R30). -/
  | writeProfileStep
  /-- WRITE_REGISTRY (R96). -/
  | writeRegistry
  /-- WRITE_BAY_CONFIG (R2). -/
  | writeBayConfig
  /-- WRITE_SHIFT_CALL (R90). -/
  | writeShiftCall
  /-- WRITE_RELAY_MAP (R144). -/
  | writeRelayMap
  /-- WRITE_ALARM_MAP (R171). -/
  | writeAlarmMap
  /-- SET_BUDGET (R48). -/
  | setBudget
  /-- START_SERVICE (R160). -/
  | startService
  /-- STOP_SERVICE (R161). -/
  | stopService
  /-- RELEASE_REQUEST (R77). -/
  | releaseRequest
  /-- CANCEL_RELEASE (R78). -/
  | cancelRelease
  /-- RELEASE_BAY (R79). -/
  | releaseBay
  /-- BAY_RESET (R26). -/
  | bayReset
  /-- ACK_CONDITIONS (R170). -/
  | ackConditions
  /-- RESUME (R174). -/
  | resume
  /-- RESTART (R162). -/
  | restart
  /-- SERVICE_FRAME (R148). -/
  | serviceFrame
  /-- UNKNOWN_KIND_FRAME (R139). -/
  | unknownKindFrame
  /-- DEPOT_FRAME_COMPLETE (R138): the character that completes a Depot Link frame. -/
  | depotFrameComplete (char : Byte)
  /-- DEPOT_LINK_IDLE (R135): 2 ms without a character. -/
  | depotLinkIdle
  /-- DEPOT_RX_FRAMING_FAULT (R135): a character whose stop bit is read at 0. -/
  | depotRxFramingFault
  /-- DEPOT_RX_BAD_LENGTH (R135): a length byte above 56. -/
  | depotRxBadLength (char : Byte)
  /-- DEPOT_TX_FRAME_START (R141). -/
  | depotTxFrameStart
  /-- DEPOT_TX_FRAME_DONE (R141). -/
  | depotTxFrameDone
  /-- BAY_LINE_TX_START (R127). -/
  | bayLineTxStart
  /-- BAY_LINE_TX_COMPLETE (R128). -/
  | bayLineTxComplete
  /-- ARBITRATION_LOST (R123). -/
  | arbitrationLost
  /-- TRANSMIT_ERROR (R128). -/
  | transmitError
  /-- BAY_LINE_FRAME_END (R130): the characters of another station's frame, and whether one had a framing fault. -/
  | bayLineFrameEnd (chars : List Byte) (framingFault : Bool)
  /-- LINE_IDLE_FOUND (R132). -/
  | lineIdleFound
  /-- LINE_DOMINANT_TIMEOUT (R131). -/
  | lineDominantTimeout
  /-- LRS_PULSE_READING (R132): the level read 20 ms after the pulse began. -/
  | lrsPulseReading (dominant : Bool)
  /-- NEXT_RECOVERY_ATTEMPT (R132). -/
  | nextRecoveryAttempt
  /-- REFRESH_DUE (R129). -/
  | refreshDue (bay : Bay)
  /-- SEGMENT_0 (R107). -/
  | segment0
  /-- GROUP_SEGMENT (R108). -/
  | groupSegment
  /-- STAGE_REPORT (R116). -/
  | stageReport
  /-- LATCH_REPORT (R117). -/
  | latchReport
  /-- METER_REPORT (R68). -/
  | meterReport
  /-- DOCK_SERVICE_FRAME (R118). -/
  | dockServiceFrame
  /-- IGNORED_FRAME (R105). -/
  | ignoredFrame
  /-- ALLOCATION_TICK (R52). -/
  | allocationTick
  /-- STEP_TIME_ADVANCE (R35). -/
  | stepTimeAdvance
  /-- STEP_TIMEOUT (R36). -/
  | stepTimeout (bay : Bay)
  /-- IDENTIFYING_DEADLINE (R6). -/
  | identifyingDeadline (bay : Bay)
  /-- CHECK_DEADLINE (R13). -/
  | checkDeadline (bay : Bay)
  /-- LONG_COOL_TIMEOUT (R11). -/
  | longCoolTimeout (bay : Bay)
  /-- NO_DATA_SET (R20). -/
  | noDataSet (bay : Bay)
  /-- NO_DATA_ESCALATION (R21). -/
  | noDataEscalation (bay : Bay)
  /-- UNLATCH_DEADLINE (R83). -/
  | unlatchDeadline (bay : Bay)
  /-- PICKUP_DEADLINE (R84). -/
  | pickupDeadline (bay : Bay)
  /-- RELATCH_DEADLINE (R85). -/
  | relatchDeadline (bay : Bay)
  /-- WAIT_LIMIT_EXPIRY (R76): the tag of the waiting entry. -/
  | waitLimitExpiry (tag : Nat)
  /-- METER_SILENT_BEGIN (R69). -/
  | meterSilentBegin
  /-- XSTOP_ASSERTED (R169). -/
  | xstopAsserted
  /-- XSTOP_RELEASED (R169). -/
  | xstopReleased
  /-- START_BIT_RECOGNISED (R120). -/
  | startBitRecognised
  /-- DEPOT_RX_CHARACTER (R135): a character that neither completes a frame nor faults it. -/
  | depotRxCharacter (char : Byte)
deriving DecidableEq, Repr

end Sys2Proof
end

