-- ==== Sys2Proof/Decode.lean ====
section
/-! DEFINITION. Decoding. The part is a block: no row of spec/opcode_table.json gives a command a bit pattern, so no word
spells one. The commands of the supervisor are frames of the Depot Link, which the Depot Link Port checks (R138) and
whose kind byte selects the request (R136, R139, see `Machine/Requests.lean`). -/

namespace Sys2Proof

/-- The command that a word spells by the table's bits: none, since the table gives no row any bits. -/
def decodeTableWord (_nbits _w : Nat) : Option Instr := none

end Sys2Proof
end

