-- ==== Sys2Proof/Config.lean ====
section
/-! DEFINITION. The values that the manual leaves open. Each is a constant without a body: nothing can be proved about its
value, so every claim holds whatever it is. -/

namespace Sys2Proof.Config

/-- The free value behind each choice of order that the manual leaves open: which of the events that are due at one
moment is taken first (00_scope.md section 2.4), and whether the allocation tick or the step time advance is taken
first at an advance of the seconds count (R52: "either order may happen"). It is applied to a counter of the state that
advances with each use. Log entry 2, DESIGN CHOICE. -/
opaque eventChoice : Nat → Nat

/-- The free value of the four bytes that carry a seconds value above 4,294,967,295. Such a value is a deadline set near
the end of the timebase (R154), which the four-byte field of R137 cannot hold and whose coding the manual does not
state. Log entry 21, DESIGN CHOICE. -/
opaque unstatedSeconds : Nat → BitVec 32

end Sys2Proof.Config
end

