-- ==== Sys2Proof/Machine/State.lean ====
section
/-! DEFINITION. The state of the part: every register, table, list, queue, flag and pin that the manual gives it, block by
block (00_scope.md section 2.1), the queue of waiting commands, and the state after power-on reset. -/

namespace Sys2Proof.Machine

/-! ## Named values -/

/-- The service states (R155), in the order of their codes. -/
inductive ServiceState where
  | loading | inService
deriving DecidableEq, Repr

/-- The ten bay states, in the order of section 1.3. -/
inductive BayState where
  | disabled | empty | identifying | quarantine | tempWait | checking | charging | ready | releasing | fault
deriving DecidableEq, Repr

/-- The quarantine reasons (R1, R7). -/
inductive QuarantineReason where
  | unknown | retired | noProfile | duplicate
deriving DecidableEq, Repr

/-- The state a bay left for RELEASING (R1, R80). -/
inductive Origin where
  | ready | quarantine | fault
deriving DecidableEq, Repr

/-- Output modes of a stage report, in the order of their codes (R122). -/
inductive StageMode where
  | off | current | voltage | fault
deriving DecidableEq, Repr

/-- Latch values, in the order of their codes (R122). -/
inductive Latch where
  | closed | opened | jammed
deriving DecidableEq, Repr

/-- Presence values, in the order of their codes (R122). -/
inductive Presence where
  | absent | present
deriving DecidableEq, Repr

/-- Setpoint modes, in the order of their codes (R122). -/
inductive SetMode where
  | off | on | probe
deriving DecidableEq, Repr

/-- Step kinds, in the order of their codes (R152). -/
inductive StepKind where
  | cc | cv | rest | equalize
deriving DecidableEq, Repr

/-- On-timeout actions, in the order of their codes (R152). -/
inductive TimeoutAction where
  | advance | fault
deriving DecidableEq, Repr

/-- Status of a registry entry, in the order of their codes (R152). -/
inductive Status where
  | inFleet | watch | retired
deriving DecidableEq, Repr

/-- Kinds of release (R80). -/
inductive ReleaseKind where
  | dispatch | maintenance
deriving DecidableEq, Repr

/-- Phases of a release (R80). -/
inductive Phase where
  | unlatching | awaitingPickup | relatching
deriving DecidableEq, Repr

/-- Latch commands (R124). -/
inductive LatchCommand where
  | unlatch | relatch
deriving DecidableEq, Repr

/-- The states of the Bay Line, in the order of R131. -/
inductive LineState where
  | idle | busy | sending | recovery | stuck
deriving DecidableEq, Repr

/-- The ten depot kinds of condition, numbered 0 to 9 (R167). -/
inductive DepotKind where
  | feederOver | meterSilent | externalStop | lineStuck | lineRxError | lineRxOverrun
  | depotRxError | depotRxOverrun | depotTxOverflow | relayShed
deriving DecidableEq, Repr

/-- The thirteen bay kinds of condition, numbered 10 to 22 (R167). -/
inductive BayKind where
  | noData | frozenData | overTemp | overVolt | connection | packFault | stageFault | latch
  | stepTimeout | unexpectedRemoval | identity | longCool | unknownPack
deriving DecidableEq, Repr

/-- A condition: a depot kind, or a bay kind in one bay (R167). -/
inductive CondId where
  | depot (kind : DepotKind)
  | bay (kind : BayKind) (bay : Bay)
deriving DecidableEq, Repr

/-! ## The Bay Sequencer's records -/

/-- A setpoint (R1, R22). -/
structure Setpoint where
  mode : SetMode
  /-- dA, 0 to 2,000. -/
  current : Nat
  /-- Voltage limit, mV. -/
  limit : Nat
deriving DecidableEq, Repr

/-- The setpoint OFF 0 0. -/
def Setpoint.allOff : Setpoint := ⟨.off, 0, 0⟩

/-- A pack record (section 6.1), with its list of cell-group voltages. -/
structure PackRecord where
  /-- Total segment count, 1 to 7. -/
  total : Nat
  /-- Alive counter, 0 to 3. -/
  alive : Nat
  faultFlag : Bool
  packId : Nat
  /-- mV. -/
  voltage : Nat
  /-- dA, positive when charging. -/
  current : Int
  highest : Int
  lowest : Int
  /-- State of charge, percent. -/
  soc : Nat
  /-- Cell-group count, 0 to 24. -/
  groups : Nat
  /-- Cell-group voltages in mV, group 1 first. -/
  cells : List Nat
deriving DecidableEq, Repr

/-- A pack record with its arrival time (R109). -/
structure Arrived where
  record : PackRecord
  arrival : Time
deriving DecidableEq, Repr

/-- A stage report (section 6.1). -/
structure StageReport where
  mode : StageMode
  voltage : Nat
  current : Nat
  code : Nat
deriving DecidableEq, Repr

/-- The registry index and the fields that R1 holds with it: the charge session of a bay (R8, R34). -/
structure Session where
  registryIndex : Fin 128
  packType : Fin 8
  profile : Fin 8
  /-- 1 to the profile's step count. -/
  stepIndex : Nat
  /-- s, at most 4,294,967,295. -/
  stepTime : Nat
  /-- dA.s; present while the current step has a quota. -/
  stepCharge : Option Nat
  /-- dA.s, at most 4,294,967,295. -/
  sessionCharge : Nat
  /-- dA.ms, 0 to 999. -/
  remainder : Nat
  taperRun : Nat
  endRun : Nat
  /-- Checked-this-session. -/
  checkDone : Bool
  /-- Session-counted. -/
  counted : Bool
  /-- The seconds count of the session's first completion (R43, R72), from which the ready time returns after a temperature
  wait of a top-up, where R1 makes it absent (R45; log entry 8, DEDUCED). -/
  firstReady : Option Nat
deriving DecidableEq, Repr

/-- The pass run and the low run of the connection check (R12). -/
structure CheckRuns where
  pass : Nat
  low : Nat
deriving DecidableEq, Repr

/-- The bay record (R1). The bay number is the record's place in the table. -/
structure BayRecord where
  state : BayState
  reason : Option QuarantineReason
  origin : Option Origin
  packId : Option Nat
  session : Option Session
  check : Option CheckRuns
  checkDeadline : Option Time
  identDeadline : Option Time
  latest : Option Arrived
  stage : Option StageReport
  latch : Option Latch
  presence : Option Presence
  noData : Bool
  frozen : Bool
  escalation : Option Time
  /-- W. -/
  demand : Nat
  /-- W. -/
  applied : Nat
  /-- dA. -/
  granted : Nat
  urgency : Option Nat
  setpoint : Setpoint
  readyTime : Option Nat
  entryTime : Time
  /-- Whether LONG_COOL has been raised in this stay in TEMP_WAIT (R11: once in each continuous stay; log entry 25, DESIGN CHOICE). -/
  longCool : Bool
deriving DecidableEq, Repr

/-- A bay's configuration entry (R2). -/
structure BayConfig where
  enabled : Bool
  maxCurrent : Nat
  maxVoltage : Nat
  efficiency : Nat
deriving DecidableEq, Repr

/-! ## Profiles and registry -/

/-- A point of the derating curve (R27). -/
structure DeratePoint where
  temp : Int
  percent : Nat
deriving DecidableEq, Repr

/-- The head of a profile (R27). -/
structure ProfileHead where
  stepCount : Nat
  startLimit : Int
  resumeLimit : Int
  abortLimit : Int
  coldLimit : Int
  d1 : DeratePoint
  d2 : DeratePoint
  d3 : DeratePoint
  d4 : DeratePoint
  minCurrent : Nat
  packOv : Nat
  cellOv : Nat
  topUp : Nat
deriving DecidableEq, Repr

/-- A step slot (R27). -/
structure ProfileStep where
  kind : StepKind
  currentLimit : Nat
  voltageTarget : Nat
  endVoltage : Nat
  taper : Nat
  quota : Nat
  maxTime : Nat
  onTimeout : TimeoutAction
deriving DecidableEq, Repr

/-- A profile: a head and six step slots, each written or not (R27). Slot of number k is item k - 1. -/
structure Profile where
  head : Option ProfileHead
  steps : Table 6 (Option ProfileStep)
deriving DecidableEq, Repr

/-- A filled registry entry (R94). -/
structure RegEntry where
  packId : Nat
  packType : Fin 8
  profile : Fin 8
  status : Status
  cycles : Nat
  lastCharge : Nat
deriving DecidableEq, Repr

/-! ## Feeder Allocator and Rotation Unit -/

/-- The five budget parameters (R48). -/
structure Budget where
  feeder : Nat
  blind : Nat
  margin : Nat
  ramp : Nat
  reclaim : Nat
deriving DecidableEq, Repr

/-- The Feeder Allocator (R48, R50, R67, section 3.9). -/
structure Fal where
  budget : Budget
  effective : Nat
  headroom : Nat
  meterArrival : Option Time
  meterSilent : Bool
  feederOver : Bool
  overRun : Nat
deriving DecidableEq, Repr

/-- What a dispatch request asked for: tag, pack type and wait limit (R75, R80). -/
structure Request where
  tag : Nat
  packType : Fin 8
  limit : Nat
deriving DecidableEq, Repr

/-- A waiting entry (R75). -/
structure WaitEntry where
  request : Request
  queued : Time
deriving DecidableEq, Repr

/-- A release record (R80). Tag, pack type and wait limit are present together. -/
structure ReleaseRecord where
  kind : ReleaseKind
  request : Option Request
  origin : Origin
  phase : Phase
  deadline : Option Time
deriving DecidableEq, Repr

/-- The Rotation Unit (R72, R75, R80, R90). -/
structure Rot where
  ready : List Bay
  waiting : List WaitEntry
  releases : Table 16 (Option ReleaseRecord)
  shiftCall : Table 8 Nat
deriving DecidableEq, Repr

/-! ## Report Decoder -/

/-- The fields of an assembly in progress (R104). The partial record holds the segment 0 fields and the voltages so far. -/
structure Assembling where
  expected : Nat
  stamp : Time
  part : PackRecord
deriving DecidableEq, Repr

/-- The alive history of a bay (R104). -/
structure Alive where
  last : Option Nat
  repeats : Nat
deriving DecidableEq, Repr

/-- The last meter reading and its arrival time (R104). -/
structure MeterReading where
  watts : Nat
  arrival : Time
deriving DecidableEq, Repr

/-- The Report Decoder (R104). An assembly record that is `none` is IDLE. -/
structure Rdc where
  assembly : Table 16 (Option Assembling)
  alive : Table 16 Alive
  lastMeter : Option MeterReading
deriving DecidableEq, Repr

/-! ## Bay Line Controller -/

/-- What an entry of the transmit queue asks to be sent (R124). -/
inductive TxWhat where
  | stop
  | drive (bay : Bay)
  | latchCmd (bay : Bay) (command : LatchCommand)
  | service (bay : Bay) (payload : List Byte)
deriving DecidableEq, Repr

/-- An entry of the Bay Line transmit queue (R124). -/
structure TxEntry where
  what : TxWhat
  queued : Time
  onLine : Bool
  renewed : Bool
  losses : Nat
deriving DecidableEq, Repr

/-- A frame of the Bay Line receive queue, with its stamp (R130). -/
structure LineFrame where
  header : Byte
  payload : List Byte
  stamp : Time
deriving DecidableEq, Repr

/-- A recovery attempt: the number of LRS pulses sent and the time of the last (R132). -/
structure Recovery where
  pulses : Nat
  pulseAt : Time
deriving DecidableEq, Repr

/-- The Bay Line Controller (R124, R129 to R132). -/
structure Blc where
  tx : List TxEntry
  rx : List LineFrame
  line : LineState
  errorRun : Nat
  recovery : Option Recovery
  nextAttempt : Option Time
  refresh : Table 16 (Option Time)
  /-- Whether the refresh for the passed due time has been asked for (R129; log entry 26, DESIGN CHOICE). -/
  refreshAsked : Table 16 Bool
  /-- The bytes of the part's frame on the line, fixed at its start (R127). -/
  sending : Option (List Byte)
  driverEnable : Bool
deriving DecidableEq, Repr

/-! ## Depot Link Port -/

/-- The receiver of the Depot Link (R135). -/
inductive Receiver where
  /-- Characters are ignored until the next idle. -/
  | awaitIdle
  /-- An idle was found: the next character begins a frame. -/
  | ready
  /-- A frame is in progress, with the characters received so far, oldest first. -/
  | inFrame (chars : List Byte)
deriving DecidableEq, Repr

/-- A frame of the Depot Link without its length and CRC bytes (R136). -/
structure DepotFrame where
  kind : Nat
  tag : Nat
  payload : List Byte
deriving DecidableEq, Repr

/-- The on-change memory that a relay item set (R146). -/
inductive MemoRef where
  | telemetry (bay : Bay)
  | stage (bay : Bay)
  | latch (bay : Bay)
  | meter
deriving DecidableEq, Repr

/-- A relay item of the lower group (R142): one frame or a pair, the on-change memory it set, and whether its sending has
begun. -/
structure RelayItem where
  first : DepotFrame
  second : Option DepotFrame
  memo : Option MemoRef
  begun : Bool
deriving DecidableEq, Repr

/-- The two groups of the transmit queue (R141). -/
inductive Group where
  | upper | lower
deriving DecidableEq, Repr

/-- The frame on the Depot Link: its group and its bytes. It is the oldest frame of its group (R141). -/
structure Sending where
  group : Group
  bytes : List Byte
deriving DecidableEq, Repr

/-- An action of the relay map (R144). -/
inductive RelayAction where
  | drop | all | onChange
  | everyN (n : Nat)
  | pass | refuse
deriving DecidableEq, Repr

/-- The relay map (R144). -/
structure RelayMap where
  telemetry : RelayAction
  stage : RelayAction
  latch : RelayAction
  meter : RelayAction
  serviceUp : RelayAction
  bayState : RelayAction
  serviceDown : RelayAction
deriving DecidableEq, Repr

/-- The decimation counters (R145). -/
structure Counters where
  telemetry : Table 16 Nat
  stage : Table 16 Nat
  latch : Table 16 Nat
  meter : Nat
  serviceUp : Table 16 Nat
  bayState : Table 16 Nat
deriving DecidableEq, Repr

/-- Compared fields of a telemetry item (R146). -/
structure TelemetryMemo where
  state : BayState
  step : Option Nat
  soc : Nat
  setpoint : Setpoint
deriving DecidableEq, Repr

/-- Compared fields of a stage item (R146). -/
structure StageMemo where
  mode : StageMode
  code : Nat
deriving DecidableEq, Repr

/-- Compared fields of a latch item (R146). -/
structure LatchMemo where
  latch : Latch
  presence : Presence
deriving DecidableEq, Repr

/-- The on-change memory (R146). -/
structure Memos where
  telemetry : Table 16 (Option TelemetryMemo)
  stage : Table 16 (Option StageMemo)
  latch : Table 16 (Option LatchMemo)
  meter : Option Nat
deriving DecidableEq, Repr

/-- The Depot Link Port (R135, R138, R140, R141, R144 to R146). -/
structure Dlp where
  receiver : Receiver
  rx : List DepotFrame
  upper : List DepotFrame
  lower : List RelayItem
  sending : Option Sending
  /-- The milliseconds of the reference clock that the link must still stay idle before the next frame (R135; log entry 16,
  DEDUCED). -/
  idleLeft : Nat
  sendCount : Nat
  map : RelayMap
  counters : Counters
  memos : Memos
deriving DecidableEq, Repr

/-! ## Management Unit and Condition Monitor -/

/-- The Management Unit (R154, R155, R162). -/
structure Mgu where
  service : ServiceState
  now : Time
  restartPending : Bool
deriving DecidableEq, Repr

/-- The two flags of a condition (R167). -/
structure Flags where
  active : Bool
  latched : Bool
deriving DecidableEq, Repr

/-- The alarm map (R171): kinds 0 to 9 are the depot kinds, 10 to 22 the bay kinds. -/
structure AlarmMap where
  trip : Table 23 Bool
  hold : Table 23 Bool
deriving DecidableEq, Repr

/-- The Condition Monitor (R167, R169, R171 to R173). The hold origin set is held as its membership tables. -/
structure Cmn where
  depot : Table 10 Flags
  bays : Table 16 (Table 13 Flags)
  map : AlarmMap
  hold : Bool
  originDepot : Table 10 Bool
  originBays : Table 16 (Table 13 Bool)
  /-- Whether TRIP is asserted. -/
  trip : Bool
  /-- Whether XSTOP is taken as asserted. -/
  xstop : Bool
deriving DecidableEq, Repr

/-! ## The whole state -/

/-- The state of the part. -/
structure State where
  bays : Table 16 BayRecord
  config : Table 16 BayConfig
  profiles : Table 8 Profile
  fal : Fal
  rot : Rot
  registry : Table 128 (Option RegEntry)
  rdc : Rdc
  blc : Blc
  dlp : Dlp
  mgu : Mgu
  cmn : Cmn
  /-- The commands that are waiting, oldest first. -/
  pending : List Instr
  /-- How many free values have been taken (log entry 2, DESIGN CHOICE). The model's own field. -/
  freeCount : Nat
deriving DecidableEq, Repr

/-- The reasons a step can fault. The manual names no event that stops the part: every abnormal matter is a condition, a
result code or a discarded frame. So there is no fault, which is safe. -/
inductive Fault where
deriving DecidableEq, Repr

/-- The reasons a step can be refused. -/
inductive Refusal where
  /-- Raised by the dispatcher alone, for a command that has no meaning yet. Safe: the run stops. -/
  | notModelled (mnemonic : String)
deriving DecidableEq, Repr

/-! ## Reset values -/

/-- The bay record after power-on reset (R25). -/
def BayRecord.reset : BayRecord where
  state := .disabled
  reason := none
  origin := none
  packId := none
  session := none
  check := none
  checkDeadline := none
  identDeadline := none
  latest := none
  stage := none
  latch := none
  presence := none
  noData := false
  frozen := false
  escalation := none
  demand := 0
  applied := 0
  granted := 0
  urgency := none
  setpoint := Setpoint.allOff
  readyTime := none
  entryTime := 0
  longCool := false

/-- The configuration entry after power-on reset (R2). -/
def BayConfig.reset : BayConfig := ⟨false, 0, 0, 90⟩

/-- The Feeder Allocator after power-on reset (R48, R71). -/
def Fal.reset : Fal where
  budget := ⟨0, 0, 1000, 500, 30⟩
  effective := 0
  headroom := 0
  meterArrival := none
  meterSilent := false
  feederOver := false
  overRun := 0

/-- The Rotation Unit after power-on reset (R93). -/
def Rot.reset : Rot where
  ready := []
  waiting := []
  releases := Table.replicate 16 none
  shiftCall := Table.replicate 8 0

/-- The Report Decoder after power-on reset (R119). -/
def Rdc.reset : Rdc where
  assembly := Table.replicate 16 none
  alive := Table.replicate 16 ⟨none, 0⟩
  lastMeter := none

/-- The Bay Line Controller after power-on reset (R134): one STOP entry with queued time 0. -/
def Blc.reset : Blc where
  tx := [⟨.stop, 0, false, false, 0⟩]
  rx := []
  line := .busy
  errorRun := 0
  recovery := none
  nextAttempt := none
  refresh := Table.replicate 16 none
  refreshAsked := Table.replicate 16 false
  sending := none
  driverEnable := false

/-- The relay map after power-on reset (R144). -/
def RelayMap.reset : RelayMap where
  telemetry := .everyN 4
  stage := .onChange
  latch := .all
  meter := .everyN 5
  serviceUp := .all
  bayState := .all
  serviceDown := .refuse

/-- All decimation counters 0 (R150). -/
def Counters.reset : Counters where
  telemetry := Table.replicate 16 0
  stage := Table.replicate 16 0
  latch := Table.replicate 16 0
  meter := 0
  serviceUp := Table.replicate 16 0
  bayState := Table.replicate 16 0

/-- All on-change memory absent (R150). -/
def Memos.reset : Memos where
  telemetry := Table.replicate 16 none
  stage := Table.replicate 16 none
  latch := Table.replicate 16 none
  meter := none

/-- The Depot Link Port after power-on reset (R150). -/
def Dlp.reset : Dlp where
  receiver := .awaitIdle
  rx := []
  upper := []
  lower := []
  sending := none
  idleLeft := 0
  sendCount := 0
  map := RelayMap.reset
  counters := Counters.reset
  memos := Memos.reset

/-- The Management Unit after power-on reset (R166). -/
def Mgu.reset : Mgu where
  service := .loading
  now := 0
  restartPending := false

/-- The alarm map after power-on reset (R171). Trip: FEEDER_OVER 0, EXTERNAL_STOP 2, LINE_STUCK 3, OVER_VOLT 13. Hold:
FEEDER_OVER, EXTERNAL_STOP, LINE_STUCK. -/
def AlarmMap.reset : AlarmMap where
  trip := ((((Table.replicate 23 false).set 0 true).set 2 true).set 3 true).set 13 true
  hold := (((Table.replicate 23 false).set 0 true).set 2 true).set 3 true

/-- The Condition Monitor after power-on reset (R175). -/
def Cmn.reset : Cmn where
  depot := Table.replicate 10 ⟨false, false⟩
  bays := Table.replicate 16 (Table.replicate 13 ⟨false, false⟩)
  map := AlarmMap.reset
  hold := false
  originDepot := Table.replicate 10 false
  originBays := Table.replicate 16 (Table.replicate 13 false)
  trip := false
  xstop := false

/-- The part right after power-on reset (R25, R27, R71, R93, R94, R119, R134, R150, R166, R175). -/
def State.reset : State where
  bays := Table.replicate 16 BayRecord.reset
  config := Table.replicate 16 BayConfig.reset
  profiles := Table.replicate 8 ⟨none, Table.replicate 6 none⟩
  fal := Fal.reset
  rot := Rot.reset
  registry := Table.replicate 128 none
  rdc := Rdc.reset
  blc := Blc.reset
  dlp := Dlp.reset
  mgu := Mgu.reset
  cmn := Cmn.reset
  pending := []
  freeCount := 0

end Sys2Proof.Machine
end

