-- ==== Sys2Proof/Machine/Codec.lean ====
section
/-! DEFINITION. Bytes and bit fields of the two links: the two check sequences, the coding of fields (R122, R136, R137,
R152) and the reading of fields from a payload. -/

namespace Sys2Proof.Machine

/-! ## Numbers and bytes -/

/-- The low `width` bytes of a number, most significant first (R122, R136). -/
def be : Nat → Nat → List Byte
  | 0, _ => []
  | width + 1, v => BitVec.ofNat 8 (v / 256 ^ width) :: be width v

/-- A signed number in two's complement on `width` bytes (R122, R137). -/
def beInt (width : Nat) (v : Int) : List Byte :=
  be width (v % (256 ^ width : Nat)).toNat

/-- The number that bytes spell, most significant first. -/
def fromBytes (bytes : List Byte) : Nat :=
  bytes.foldl (fun acc b => acc * 256 + b.toNat) 0

/-- The unsigned field of `width` bytes at offset `at_` of a payload. -/
def field (payload : List Byte) (at_ width : Nat) : Nat :=
  fromBytes ((payload.drop at_).take width)

/-- A number of `width` bytes read as two's complement. -/
def asSigned (width v : Nat) : Int :=
  if 2 * v < 256 ^ width then (v : Int) else (v : Int) - (256 ^ width : Nat)

/-- The signed field of `width` bytes at offset `at_` of a payload. -/
def signedField (payload : List Byte) (at_ width : Nat) : Int :=
  asSigned width (field payload at_ width)

/-- A set given by its membership list, as a number: item i is bit i (R137, R170). -/
def bitsOf : List Bool → Nat
  | [] => 0
  | b :: bs => b.toNat + 2 * bitsOf bs

/-! ## Check sequences -/

/-- One bit of the CRC-8 with generator x^8 + x^2 + x + 1 (R122). -/
def crc8Bit (c : BitVec 8) : BitVec 8 :=
  if c.msb then (c <<< 1) ^^^ 0x07#8 else c <<< 1

/-- One byte of the CRC-8, most significant bit first. -/
def crc8Byte (c b : BitVec 8) : BitVec 8 :=
  crc8Bit (crc8Bit (crc8Bit (crc8Bit (crc8Bit (crc8Bit (crc8Bit (crc8Bit (c ^^^ b))))))))

/-- The CRC-8 of the Bay Line: initial value 0, no final inversion (R122). -/
def crc8 (bytes : List Byte) : BitVec 8 :=
  bytes.foldl crc8Byte 0#8

/-- One bit of the CRC-16 with generator 0x1021 (R136). -/
def crc16Bit (c : BitVec 16) : BitVec 16 :=
  if c.msb then (c <<< 1) ^^^ 0x1021#16 else c <<< 1

/-- One byte of the CRC-16, most significant bit first. -/
def crc16Byte (c : BitVec 16) (b : BitVec 8) : BitVec 16 :=
  crc16Bit (crc16Bit (crc16Bit (crc16Bit (crc16Bit (crc16Bit (crc16Bit (crc16Bit
    (c ^^^ (b.zeroExtend 16 <<< 8)))))))))

/-- The CRC-16 of the Depot Link: initial value 0xFFFF, no final inversion (R136). -/
def crc16 (bytes : List Byte) : BitVec 16 :=
  bytes.foldl crc16Byte 0xFFFF#16

/-! ## Frames -/

/-- A Bay Line frame of the part, source station 0 (R121, R122). -/
def lineFrameBytes (cls dest : Nat) (payload : List Byte) : List Byte :=
  let body := be 1 (cls * 32) ++ be 1 dest ++ be 1 payload.length ++ payload
  body ++ [crc8 body]

/-- A Depot Link frame with its length and CRC (R136). -/
def DepotFrame.bytes (f : DepotFrame) : List Byte :=
  let body := be 1 f.payload.length ++ be 1 f.kind ++ be 2 f.tag ++ f.payload
  body ++ be 2 (crc16 body).toNat

/-- The frame that the characters of a complete Depot Link frame spell: kind, tag and payload (R136). -/
def depotFrameOf (chars : List Byte) : DepotFrame where
  kind := field chars 1 1
  tag := field chars 2 2
  payload := (chars.drop 4).take (chars.length - 6)

/-- Whether the CRC of a complete Depot Link frame matches (R136, R138). -/
def depotCrcOk (chars : List Byte) : Bool :=
  field chars (chars.length - 2) 2 == (crc16 (chars.take (chars.length - 2))).toNat

/-! ## Field coding (R137) -/

/-- A field of an answer, a notice or a table item. An optional field has a bit in the presence mask. -/
structure Field where
  optional : Bool
  present : Bool
  bytes : List Byte
deriving DecidableEq, Repr

/-- A field that is always present. -/
def Field.fixed (bytes : List Byte) : Field := ⟨false, true, bytes⟩

/-- A field that may be absent; an absent field is sent as zeros at its full width (R137). -/
def Field.opt (width : Nat) (v : Option Nat) : Field :=
  ⟨true, v.isSome, be width (v.getD 0)⟩

/-- Fields preceded by the presence mask of those that may be absent: one byte for each eight, bit i of the mask counted
from the least significant bit of its last byte (R137). -/
def encodeFields (fields : List Field) : List Byte :=
  let marks := (fields.filter (·.optional)).map (·.present)
  be ((marks.length + 7) / 8) (bitsOf marks) ++ fields.flatMap (·.bytes)

/-- A yes-or-no flag (R137). -/
def flagByte (b : Bool) : List Byte := be 1 b.toNat

/-- A time of the timebase: seconds in four bytes, milliseconds in two (R137). A seconds value that four bytes cannot
hold is sent as a free value (log entry 21, DESIGN CHOICE). -/
def timeBytes (t : Time) : List Byte :=
  (if t / 1000 < 4294967296 then be 4 (t / 1000) else be 4 (Config.unstatedSeconds (t / 1000)).toNat) ++ be 2 (t % 1000)

/-- A time that may be absent. -/
def Field.optTime (t : Option Time) : Field :=
  ⟨true, t.isSome, match t with
    | some t => timeBytes t
    | none => be 6 0⟩

/-- A bay, or 0 where no bay is named (R137). -/
def bayByte (b : Option Bay) : List Byte :=
  be 1 (match b with
    | some b => bayNumber b
    | none => 0)

/-- A pack ID, or 0 where it is absent (R137). -/
def packIdBytes (id : Option Nat) : List Byte := be 4 (id.getD 0)

/-! ## Codes of enumerated values (R122, R137, R152) -/

def ServiceState.code : ServiceState → Nat
  | .loading => 0 | .inService => 1

def BayState.code : BayState → Nat
  | .disabled => 0 | .empty => 1 | .identifying => 2 | .quarantine => 3 | .tempWait => 4
  | .checking => 5 | .charging => 6 | .ready => 7 | .releasing => 8 | .fault => 9

def QuarantineReason.code : QuarantineReason → Nat
  | .unknown => 0 | .retired => 1 | .noProfile => 2 | .duplicate => 3

def Origin.code : Origin → Nat
  | .ready => 0 | .quarantine => 1 | .fault => 2

def StageMode.code : StageMode → Nat
  | .off => 0 | .current => 1 | .voltage => 2 | .fault => 3

def Latch.code : Latch → Nat
  | .closed => 0 | .opened => 1 | .jammed => 2

def Presence.code : Presence → Nat
  | .absent => 0 | .present => 1

def SetMode.code : SetMode → Nat
  | .off => 0 | .on => 1 | .probe => 2

def StepKind.code : StepKind → Nat
  | .cc => 0 | .cv => 1 | .rest => 2 | .equalize => 3

def TimeoutAction.code : TimeoutAction → Nat
  | .advance => 0 | .fault => 1

def Status.code : Status → Nat
  | .inFleet => 0 | .watch => 1 | .retired => 2

def ReleaseKind.code : ReleaseKind → Nat
  | .dispatch => 0 | .maintenance => 1

def Phase.code : Phase → Nat
  | .unlatching => 0 | .awaitingPickup => 1 | .relatching => 2

def LatchCommand.code : LatchCommand → Nat
  | .unlatch => 1 | .relatch => 2

def LineState.code : LineState → Nat
  | .idle => 0 | .busy => 1 | .sending => 2 | .recovery => 3 | .stuck => 4

/-- Relay actions: DROP 0, ALL 1, ON_CHANGE 2, EVERY_N 3, PASS 4, REFUSE 5 (R152). -/
def RelayAction.code : RelayAction → Nat
  | .drop => 0 | .all => 1 | .onChange => 2 | .everyN _ => 3 | .pass => 4 | .refuse => 5

/-- The N that an EVERY_N entry holds (R144). -/
def RelayAction.every : RelayAction → Option Nat
  | .everyN n => some n
  | _ => none

def stageModeOf : Nat → Option StageMode
  | 0 => some .off | 1 => some .current | 2 => some .voltage | 3 => some .fault | _ => none

def latchOf : Nat → Option Latch
  | 0 => some .closed | 1 => some .opened | 2 => some .jammed | _ => none

def presenceOf : Nat → Option Presence
  | 0 => some .absent | 1 => some .present | _ => none

def stepKindOf : Nat → Option StepKind
  | 0 => some .cc | 1 => some .cv | 2 => some .rest | 3 => some .equalize | _ => none

def timeoutActionOf : Nat → Option TimeoutAction
  | 0 => some .advance | 1 => some .fault | _ => none

def statusOf : Nat → Option Status
  | 0 => some .inFleet | 1 => some .watch | 2 => some .retired | _ => none

/-- The bay of a bay number: 1 to 16. -/
def bayOf (n : Nat) : Option Bay :=
  if h : 1 ≤ n ∧ n ≤ 16 then some ⟨n - 1, by omega⟩ else none

/-- A number below `n`, as a place in a table. -/
def finOf (n v : Nat) : Option (Fin n) :=
  if h : v < n then some ⟨v, h⟩ else none

/-! ## Condition numbers (R167) -/

def DepotKind.index : DepotKind → Fin 10
  | .feederOver => 0 | .meterSilent => 1 | .externalStop => 2 | .lineStuck => 3 | .lineRxError => 4
  | .lineRxOverrun => 5 | .depotRxError => 6 | .depotRxOverrun => 7 | .depotTxOverflow => 8 | .relayShed => 9

def BayKind.index : BayKind → Fin 13
  | .noData => 0 | .frozenData => 1 | .overTemp => 2 | .overVolt => 3 | .connection => 4 | .packFault => 5
  | .stageFault => 6 | .latch => 7 | .stepTimeout => 8 | .unexpectedRemoval => 9 | .identity => 10
  | .longCool => 11 | .unknownPack => 12

/-- The number of a depot kind in the alarm map. -/
def DepotKind.number (k : DepotKind) : Fin 23 := ⟨k.index.val, by have := k.index.isLt; omega⟩

/-- The number of a bay kind in the alarm map: 10 to 22. -/
def BayKind.number (k : BayKind) : Fin 23 := ⟨10 + k.index.val, by have := k.index.isLt; omega⟩

/-- The kind number of a condition. -/
def CondId.number : CondId → Fin 23
  | .depot k => k.number
  | .bay k _ => k.number

/-- The bay of a condition, if it is of a bay kind. -/
def CondId.bay? : CondId → Option Bay
  | .depot _ => none
  | .bay _ b => some b

/-! ## Result codes (R136) -/

/-- Result codes of answers. -/
inductive Result where
  | ok | queued | serving | badFrame | unknownKind | badValue | wrongState | inUse | duplicate
  | listFull | noneReady | refusedByMap | unknownTag
deriving DecidableEq, Repr

def Result.code : Result → Nat
  | .ok => 0 | .queued => 1 | .serving => 2 | .badFrame => 3 | .unknownKind => 4 | .badValue => 5
  | .wrongState => 6 | .inUse => 7 | .duplicate => 8 | .listFull => 9 | .noneReady => 10
  | .refusedByMap => 11 | .unknownTag => 12

/-- Outcomes of RELEASE notices, in the order of R89. -/
inductive ReleaseOutcome where
  | started | released | notCollected | latchFailed | aborted | requeued | expired | cancelled
deriving DecidableEq, Repr

def ReleaseOutcome.code : ReleaseOutcome → Nat
  | .started => 0 | .released => 1 | .notCollected => 2 | .latchFailed => 3 | .aborted => 4
  | .requeued => 5 | .expired => 6 | .cancelled => 7

end Sys2Proof.Machine
end

