-- ==== Sys2Proof/Machine/Ops.lean ====
section
/-! DEFINITION. The named operations over the state: bay records, times, conditions as flags, the Bay Line transmit queue
(R125, R126), setpoint evaluation (R22, R23). -/

namespace Sys2Proof.Machine

/-! ## Access to the state -/

/-- The record of a bay. -/
def State.bay (s : State) (b : Bay) : BayRecord := s.bays.get b

/-- The state with a bay's record replaced. -/
def State.setBay (s : State) (b : Bay) (r : BayRecord) : State := { s with bays := s.bays.set b r }

/-- The state with a bay's record changed. -/
def State.modBay (s : State) (b : Bay) (f : BayRecord → BayRecord) : State := s.setBay b (f (s.bay b))

/-- The state with every bay's record changed at once. -/
def State.modBays (s : State) (f : Bay → BayRecord → BayRecord) : State :=
  { s with bays := Table.ofFn (fun b => f b (s.bay b)) }

/-- Now: the present value of the timebase. -/
def State.now (s : State) : Time := s.mgu.now

/-- The seconds count of the timebase. -/
def State.seconds (s : State) : Nat := s.mgu.now / 1000

/-- Whether the service state is IN_SERVICE. -/
def State.inService (s : State) : Bool := s.mgu.service == .inService

/-- The flags of a depot condition (R167). -/
def State.depotFlags (s : State) (k : DepotKind) : Flags := s.cmn.depot.get k.index

/-- The flags of a bay condition. -/
def State.bayFlags (s : State) (k : BayKind) (b : Bay) : Flags := (s.cmn.bays.get b).get k.index

/-- Whether LINE_STUCK is active (R133). -/
def State.lineStuck (s : State) : Bool := (s.depotFlags .lineStuck).active

/-- A deadline some milliseconds from now, or absent while LINE_STUCK is active: how R6, R12 and R86 set deadlines. -/
def State.deadline (s : State) (ms : Nat) : Option Time :=
  if s.lineStuck then none else some (s.now + ms)

/-- The current step of a session, from the profile table. -/
def State.stepOf (s : State) (x : Session) : Option ProfileStep :=
  ((s.profiles.get x.profile).steps.list[x.stepIndex - 1]?).join

/-- The head of a session's profile. -/
def State.headOf (s : State) (x : Session) : Option ProfileHead := (s.profiles.get x.profile).head

/-- The current step of a bay's session. -/
def State.bayStep (s : State) (b : Bay) : Option ProfileStep := (s.bay b).session.bind s.stepOf

/-- The head of the profile of a bay's session. -/
def State.bayHead (s : State) (b : Bay) : Option ProfileHead := (s.bay b).session.bind s.headOf

/-- The states with a pack (section 1.3). -/
def BayState.withPack : BayState → Bool
  | .identifying | .quarantine | .tempWait | .checking | .charging | .ready | .releasing => true
  | _ => false

/-- The five states in which record age is watched (R20). -/
def BayState.watched : BayState → Bool
  | .tempWait | .checking | .charging | .ready | .releasing => true
  | _ => false

/-- The three states in which a stale bay escalates (R21). -/
def BayState.escalates : BayState → Bool
  | .tempWait | .checking | .charging => true
  | _ => false

/-- Whether a state, with the release origin, is an identified state (section 1.3). -/
def identifiedState (state : BayState) (origin : Option Origin) : Bool :=
  match state with
  | .tempWait | .checking | .charging | .ready => true
  | .releasing => origin == some .ready
  | _ => false

/-- Whether a bay is in an identified state. -/
def BayRecord.identified (r : BayRecord) : Bool := identifiedState r.state r.origin

/-- Whether some bay other than `except` in an identified state satisfies `p` of its session. -/
def State.anySession (s : State) (except : Option Bay) (p : Session → Bool) : Bool :=
  allBays.any fun b =>
    some b != except && (s.bay b).identified && ((s.bay b).session.any p)

/-- The bay that holds a registry index in its record, if any (R94, R102). -/
def State.holderOf (s : State) (i : Fin 128) : Option Bay :=
  allBays.find? fun b => (s.bay b).session.any (fun x => x.registryIndex == i)

/-! ## The Bay Line transmit queue -/

/-- The list with its first element that satisfies `p` changed by `f`. -/
def modifyFirst {α : Type} (p : α → Bool) (f : α → α) : List α → List α
  | [] => []
  | a :: as => if p a then f a :: as else a :: modifyFirst p f as

/-- The state with the transmit queue replaced. -/
def State.setTx (s : State) (tx : List TxEntry) : State := { s with blc := { s.blc with tx := tx } }

/-- A new entry, queued now. -/
def State.newEntry (s : State) (what : TxWhat) : TxEntry := ⟨what, s.now, false, false, 0⟩

/-- A request for a drive or STOP entry (R125): a new entry when there is none, nothing when one waits, the renewed mark
when it is on the line. -/
def State.requestSingle (s : State) (what : TxWhat) : State :=
  if s.blc.tx.any (fun e => e.what == what) then
    s.setTx (s.blc.tx.map fun e => if e.what == what && e.onLine then { e with renewed := true } else e)
  else
    s.setTx (s.blc.tx ++ [s.newEntry what])

/-- A request for a bay's drive entry (R125). -/
def State.requestDrive (s : State) (b : Bay) : State := s.requestSingle (.drive b)

/-- A request for the STOP entry (R125). -/
def State.requestStop (s : State) : State := s.requestSingle .stop

/-- Whether an entry is one of the kinds LATCH_CMD and SERVICE, which share seven places (R126). -/
def TxEntry.limited (e : TxEntry) : Bool :=
  match e.what with
  | .latchCmd _ _ | .service _ _ => true
  | _ => false

/-- Whether the queue has a place for a LATCH_CMD or SERVICE entry (R126). -/
def State.placeFree (s : State) : Bool := decide (s.blc.tx.countP TxEntry.limited < 7)

/-- Whether an entry is a latch entry of a bay that waits and is not on the line (R126). -/
def TxEntry.waitingLatch (b : Bay) (e : TxEntry) : Bool :=
  match e.what with
  | .latchCmd c _ => c == b && !e.onLine
  | _ => false

/-- A request for a LATCH_CMD entry (R126; log entry 23, DESIGN CHOICE), and whether it was admitted. -/
def State.requestLatch (s : State) (b : Bay) (command : LatchCommand) : State × Bool :=
  if s.blc.tx.any (TxEntry.waitingLatch b) then
    (s.setTx (modifyFirst (TxEntry.waitingLatch b) (fun e => { e with what := .latchCmd b command }) s.blc.tx), true)
  else if s.placeFree then
    (s.setTx (s.blc.tx ++ [s.newEntry (.latchCmd b command)]), true)
  else (s, false)

/-- A request for a SERVICE entry (R126), and whether it was admitted. -/
def State.requestService (s : State) (b : Bay) (payload : List Byte) : State × Bool :=
  if s.placeFree then (s.setTx (s.blc.tx ++ [s.newEntry (.service b payload)]), true) else (s, false)

/-- The withdrawal of a waiting UNLATCH entry of a bay when its release record closes (R80, R126). -/
def State.withdrawUnlatch (s : State) (b : Bay) : State :=
  s.setTx (s.blc.tx.filter fun e => !(e.what == .latchCmd b .unlatch && !e.onLine))

/-! ## The setpoint -/

/-- The setpoint rule (R22). -/
def State.setpointFor (s : State) (b : Bay) : Setpoint :=
  let r := s.bay b
  let c := s.config.get b
  match r.state, s.bayStep b with
  | .charging, some step =>
    if step.kind != .rest && s.inService && !s.cmn.hold && !r.noData then
      ⟨.on, min r.granted (min step.currentLimit c.maxCurrent), min step.voltageTarget c.maxVoltage⟩
    else Setpoint.allOff
  | .checking, some step => ⟨.probe, 0, min step.voltageTarget c.maxVoltage⟩
  | _, _ => Setpoint.allOff

/-- An evaluation of a bay's setpoint (R23): a setpoint that differs is stored and asks for a drive entry. -/
def State.evalSetpoint (s : State) (b : Bay) : State :=
  if s.setpointFor b = (s.bay b).setpoint then s
  else (s.modBay b fun r => { r with setpoint := s.setpointFor b }).requestDrive b

/-- An evaluation of every bay's setpoint, in ascending bay number. -/
def State.evalAllSetpoints (s : State) : State := allBays.foldl State.evalSetpoint s

end Sys2Proof.Machine
end

