-- ==== Sys2Proof/Machine/Allocation.lean ====
section
/-! DEFINITION. The Feeder Allocator's arithmetic and the allocation round (R50 to R67), with the urgency classes that the
Rotation Unit gives it (R91, R92). -/

namespace Sys2Proof.Machine

/-! ## The effective budget -/

/-- The effective budget by its circumstances (R50). -/
def State.effectiveBudget (s : State) : Nat :=
  if !s.inService || s.cmn.hold then 0
  else if s.fal.meterSilent then s.fal.budget.blind
  else s.fal.budget.feeder

/-- The sum of the applied grants of all bays. -/
def State.appliedSum (s : State) : Nat := (allBays.map fun b => (s.bay b).applied).sum

/-- The effective budget and the headroom recomputed (R50, R67). -/
def State.recomputeBudget (s : State) : State :=
  { s with fal := { s.fal with effective := s.effectiveBudget, headroom := s.effectiveBudget - s.appliedSum } }

/-! ## Urgency classes -/

/-- Whether a bay is a candidate for pack type `t` (R91). -/
def State.candidate (s : State) (t : Fin 8) (b : Bay) : Bool :=
  (s.bay b).state == .charging && (s.bay b).session.any (fun x => x.packType == t)

/-- The state of charge of a bay's latest pack record. A bay in CHARGING always has one (R8). -/
def State.socOf (s : State) (b : Bay) : Nat := ((s.bay b).latest.map (·.record.soc)).getD 0

/-- The number of candidates of type `t` ranked before bay `b`: higher state of charge first, then lower number (R91). -/
def State.rankOf (s : State) (t : Fin 8) (b : Bay) : Nat :=
  allBays.countP fun c =>
    s.candidate t c && (decide (s.socOf b < s.socOf c) || (s.socOf b == s.socOf c && decide (c < b)))

/-- W of R91: the number of waiting entries of a type. -/
def State.waitingOf (s : State) (t : Fin 8) : Nat := s.rot.waiting.countP fun e => e.request.packType == t

/-- Rdy of R91: the number of ready-list entries of a type. -/
def State.readyOf (s : State) (t : Fin 8) : Nat :=
  s.rot.ready.countP fun b => (s.bay b).session.any (fun x => x.packType == t)

/-- The shortfall of a type (R91). -/
def State.shortfall (s : State) (t : Fin 8) : Nat := s.rot.shiftCall.get t + s.waitingOf t - s.readyOf t

/-- k0 of R91. -/
def State.earmarked (s : State) (t : Fin 8) : Nat :=
  min (s.waitingOf t) (allBays.countP (s.candidate t))

/-- k1 of R91. -/
def State.countedToCall (s : State) (t : Fin 8) : Nat :=
  min (s.shortfall t - s.earmarked t) (allBays.countP (s.candidate t) - s.earmarked t)

/-- The urgency class of a bay in CHARGING (R92); absent in every other state (R54). -/
def State.urgencyOf (s : State) (b : Bay) : Option Nat :=
  match (s.bay b).state, (s.bay b).session with
  | .charging, some x =>
    let rank := s.rankOf x.packType b
    if rank < s.earmarked x.packType then some 0
    else if rank < s.earmarked x.packType + s.countedToCall x.packType then some 1
    else if (s.stepOf x).any (fun p => p.kind == .equalize) then some 3
    else some 2
  | _, _ => none

/-! ## Demand -/

/-- Ceiling of a quotient. -/
def ceilDiv (a d : Nat) : Nat := (a + d - 1) / d

/-- The derate percent on one segment of the curve, with the floor toward minus infinity (R57). -/
def derateOn (p q : DeratePoint) (t : Int) : Int :=
  p.percent + ((t - p.temp) * ((q.percent : Int) - p.percent)).fdiv (q.temp - p.temp)

/-- Stage 2: the derate percent (R57). -/
def deratePercent (h : ProfileHead) (t : Int) : Nat :=
  (if t ≤ h.d1.temp then (h.d1.percent : Int)
   else if h.d4.temp ≤ t then h.d4.percent
   else if t < h.d2.temp then derateOn h.d1 h.d2 t
   else if t < h.d3.temp then derateOn h.d2 h.d3 t
   else derateOn h.d3 h.d4 t).toNat

/-- What stages 1 to 7 give a charging bay: the demand current, the voltage limit and the AC demand. -/
structure Demand where
  iDem : Nat
  vLim : Nat
  watts : Nat
deriving DecidableEq, Repr

/-- A demand of 0 (R56). -/
def Demand.zero : Demand := ⟨0, 0, 0⟩

/-- Stage 5: reclaim (R59). -/
def reclaimed (margin setCurrent measured iCap : Nat) : Nat :=
  if 0 < margin ∧ 0 < setCurrent ∧ measured + margin < setCurrent then min iCap (measured + margin) else iCap

/-- Stages 6 and 7: the AC demand (R60). -/
def acDemand (iDem vLim efficiency : Nat) : Nat :=
  ceilDiv (ceilDiv (iDem * vLim) 10000 * 100) efficiency

/-- The demand of a bay (R56 to R60). -/
def State.demandOf (s : State) (b : Bay) : Demand :=
  let r := s.bay b
  let c := s.config.get b
  match r.state, s.bayStep b, s.bayHead b, r.latest with
  | .charging, some step, some head, some last =>
    if step.kind == .rest || r.noData then Demand.zero
    else
      let iDer := step.currentLimit * deratePercent head last.record.highest / 100
      let iCap := min iDer c.maxCurrent
      let iDem := reclaimed s.fal.budget.reclaim r.setpoint.current last.record.current.toNat iCap
      let vLim := min step.voltageTarget c.maxVoltage
      ⟨iDem, vLim, acDemand iDem vLim c.efficiency⟩
  | _, _, _, _ => Demand.zero

/-! ## Apportioning -/

/-- One further watt to each of the first `r` bays whose share is below their demand (R63). -/
def addWatts : Nat → List Nat → List Nat → List Nat
  | 0, gs, _ => gs
  | r + 1, g :: gs, a :: as => if g < a then (g + 1) :: addWatts r gs as else g :: addWatts (r + 1) gs as
  | _ + 1, gs, _ => gs

/-- The shares of one class out of the remainder R (R61 to R63). The list holds a demand for each of the sixteen bays in
ascending number; a bay outside the class stands in it with demand 0, which takes nothing and is passed over. -/
def shareClass (R : Nat) (demands : List Nat) : List Nat :=
  if demands.sum ≤ R then demands
  else
    let g := demands.map fun a => R * a / demands.sum
    addWatts (R - g.sum) g demands

/-- The remainder after a class (R61). -/
def remainderAfter (R : Nat) (demands : List Nat) : Nat :=
  if demands.sum ≤ R then R - demands.sum else 0

/-- The demands of the bays of one class, 0 elsewhere. -/
def classDemands (rows : List (Option Nat × Nat)) (cls : Nat) : List Nat :=
  rows.map fun row => if row.1 == some cls then row.2 else 0

/-- The computed grants of the sixteen bays: classes 0, 1, 2 and 3 in turn (R61). -/
def apportion (budget : Nat) (rows : List (Option Nat × Nat)) : List Nat :=
  let d0 := classDemands rows 0
  let d1 := classDemands rows 1
  let d2 := classDemands rows 2
  let d3 := classDemands rows 3
  let r1 := remainderAfter budget d0
  let r2 := remainderAfter r1 d1
  let r3 := remainderAfter r2 d2
  List.zipWith (· + ·) (List.zipWith (· + ·) (shareClass budget d0) (shareClass r1 d1))
    (List.zipWith (· + ·) (shareClass r2 d2) (shareClass r3 d3))

/-- The current that an AC grant gives: at most the demand current (R64, R66). -/
def grantCurrent (d : Demand) (efficiency grant : Nat) : Nat :=
  min d.iDem (grant * efficiency / 100 * 10000 / d.vLim)

/-- Stage 8: the minimum-current check (R64). -/
def checkedGrant (d : Demand) (efficiency minCurrent grant : Nat) : Nat :=
  if 0 < grant ∧ grantCurrent d efficiency grant < minCurrent then 0 else grant

/-- Stage 9: the ramp (R65). -/
def rampedGrant (ramp before grant : Nat) : Nat := min grant (before + ramp)

/-! ## The round -/

/-- What a round writes to one bay record (R53, R54). -/
structure Allotment where
  urgency : Option Nat
  demand : Nat
  applied : Nat
  granted : Nat
deriving DecidableEq, Repr

/-- The urgency class and the demand of each bay, in ascending number. -/
def State.roundRows (s : State) : List (Option Nat × Nat) :=
  allBays.map fun b => (s.urgencyOf b, (s.demandOf b).watts)

/-- The computed grant of a bay (R61 to R63). -/
def State.computedGrant (s : State) (b : Bay) : Nat :=
  (apportion s.fal.effective s.roundRows).getD b.val 0

/-- What the round gives a bay (R53, R54, R64 to R66). -/
def State.allotment (s : State) (b : Bay) : Allotment :=
  let d := s.demandOf b
  let efficiency := (s.config.get b).efficiency
  if (s.bay b).state = .charging then
    let checked := checkedGrant d efficiency ((s.bayHead b).elim 0 (·.minCurrent)) (s.computedGrant b)
    let applied := rampedGrant s.fal.budget.ramp (s.bay b).applied checked
    ⟨s.urgencyOf b, d.watts, applied, grantCurrent d efficiency applied⟩
  else ⟨none, 0, 0, 0⟩

/-- A bay record with a round's results. -/
def BayRecord.allot (r : BayRecord) (a : Allotment) : BayRecord :=
  { r with urgency := a.urgency, demand := a.demand, applied := a.applied, granted := a.granted }

/-- The results written to every bay record in one step, and the headroom (R53 step 5, R67). -/
def State.writeGrants (s : State) : State :=
  let t := s.modBays fun b r => r.allot (s.allotment b)
  { t with fal := { t.fal with headroom := t.fal.effective - t.appliedSum } }

/-- Whether a round wrote a bay's applied grant or granted current with a new value (R53 step 6). -/
def State.grantChanged (s : State) (b : Bay) : Bool :=
  (s.allotment b).applied != (s.bay b).applied || (s.allotment b).granted != (s.bay b).granted

/-- The allocation round (R53). -/
def State.round (s : State) : State :=
  allBays.foldl (fun t b => if s.grantChanged b then t.evalSetpoint b else t) s.writeGrants

/-- A round where one may run: IN_SERVICE and not on hold (R52). Every asking block uses this, at each ask (log entry 6,
DEDUCED). -/
def State.askRound (s : State) : State :=
  if s.inService && !s.cmn.hold then s.round else s

/-! ## Grants set to 0 -/

/-- What hold entry does to the grants: every applied grant and granted current 0, budget and headroom 0; demand and
urgency class are kept (R51, R173 step 3). -/
def State.zeroGrants (s : State) : State :=
  let t := s.modBays fun _ r => { r with applied := 0, granted := 0 }
  { t with fal := { t.fal with effective := 0, headroom := 0 } }

/-- What entry to LOADING does to the grants: demand, applied grant and granted current 0, class absent, budget and
headroom 0 (R51, R161 step 4). -/
def State.clearGrants (s : State) : State :=
  let t := s.modBays fun _ r => { r with applied := 0, granted := 0, demand := 0, urgency := none }
  { t with fal := { t.fal with effective := 0, headroom := 0 } }

end Sys2Proof.Machine
end

