-- ==== Sys2Proof/Machine/Conditions.lean ====
section
/-! DEFINITION. The Condition Monitor and the admission to the Depot Link transmit queue. The two belong together: a
condition's notice is admitted to the queue (R168, R142), and a full queue raises conditions (R142). -/

namespace Sys2Proof.Machine

/-! ## The flags, the trip line and the hold origin set -/

/-- The flags of a condition. -/
def State.flags (s : State) : CondId → Flags
  | .depot k => s.depotFlags k
  | .bay k b => s.bayFlags k b

/-- The Condition Monitor with the flags of a condition replaced. -/
def Cmn.setFlags (c : Cmn) (id : CondId) (f : Flags) : Cmn :=
  match id with
  | .depot k => { c with depot := c.depot.set k.index f }
  | .bay k b => { c with bays := c.bays.set b ((c.bays.get b).set k.index f) }

/-- The state with the flags of a condition replaced. -/
def State.setFlags (s : State) (id : CondId) (f : Flags) : State := { s with cmn := s.cmn.setFlags id f }

/-- The latched kinds of the depot scope, kind 0 first. -/
def Cmn.latchedDepot (c : Cmn) : List Bool := c.depot.list.map (·.latched)

/-- The latched kinds of a bay, kind 10 first. -/
def Cmn.latchedBay (c : Cmn) (b : Bay) : List Bool := (c.bays.get b).list.map (·.latched)

/-- Whether a latched condition of the depot or of any bay is of a kind in a selection of the alarm map (R172, R174). -/
def Cmn.anyLatched (c : Cmn) (selection : Table 23 Bool) : Bool :=
  (c.latchedDepot.zipWith (· && ·) selection.list).any id ||
    allBays.any fun b => ((c.latchedBay b).zipWith (· && ·) (selection.list.drop 10)).any id

/-- The trip rule (R172): asserted if and only if a latched condition is of a kind selected for trip. -/
def Cmn.tripRule (c : Cmn) : Bool := c.anyLatched c.map.trip

/-- TRIP recomputed. -/
def State.recomputeTrip (s : State) : State := { s with cmn := { s.cmn with trip := s.cmn.tripRule } }

/-- A pair added to the hold origin set (R173). -/
def Cmn.addOrigin (c : Cmn) : CondId → Cmn
  | .depot k => { c with originDepot := c.originDepot.set k.index true }
  | .bay k b => { c with originBays := c.originBays.set b ((c.originBays.get b).set k.index true) }

/-- The hold origin set emptied. -/
def Cmn.clearOrigin (c : Cmn) : Cmn :=
  { c with originDepot := Table.replicate 10 false, originBays := Table.replicate 16 (Table.replicate 13 false) }

/-! ## Frames of the Depot Link transmit queue -/

/-- The number of frames of a relay item. -/
def RelayItem.size (i : RelayItem) : Nat := if i.second.isSome then 2 else 1

/-- The number of frames in the transmit queue (R141). -/
def Dlp.queued (d : Dlp) : Nat := d.upper.length + (d.lower.map RelayItem.size).sum

/-- The on-change memory without what an item had set (R146). -/
def Memos.forget (m : Memos) : Option MemoRef → Memos
  | none => m
  | some (.telemetry b) => { m with telemetry := m.telemetry.set b none }
  | some (.stage b) => { m with stage := m.stage.set b none }
  | some (.latch b) => { m with latch := m.latch.set b none }
  | some .meter => { m with meter := none }

/-- A frame placed at the back of the upper group (R142). -/
def Dlp.joinUpper (d : Dlp) (f : DepotFrame) : Dlp := { d with upper := d.upper ++ [f] }

/-- The admission of an answer or a notice (R142), and the condition that it raises. The most recently queued relay item
is the last of the lower group; only the oldest item of a group can have begun, so the last item is being sent exactly
when its sending has begun. -/
def Dlp.placeUpper (d : Dlp) (f : DepotFrame) : Dlp × Option DepotKind :=
  if d.queued < 32 then (d.joinUpper f, none)
  else
    match d.lower.getLast? with
    | some item =>
      if item.begun then (d, some .depotTxOverflow)
      else
        ({ d with lower := d.lower.dropLast, memos := d.memos.forget item.memo }.joinUpper f, some .relayShed)
    | none => (d, some .depotTxOverflow)

/-- The admission of a relay item (R142), and the condition that it raises. -/
def Dlp.placeRelay (d : Dlp) (item : RelayItem) : Dlp × Option DepotKind :=
  if d.queued + item.size ≤ 32 then ({ d with lower := d.lower ++ [item] }, none)
  else ({ d with memos := d.memos.forget item.memo }, some .relayShed)

/-- The next value of the send count (R140). -/
def nextCount (n : Nat) : Nat := (n + 1) % 65536

/-! ## Raising a condition -/

/-- A notice or relay frame with the send count of this moment, and the count increased (R140). -/
def State.countedFrame (s : State) (kind : Nat) (payload : List Byte) : State × DepotFrame :=
  ({ s with dlp := { s.dlp with sendCount := nextCount s.dlp.sendCount } }, ⟨kind, s.dlp.sendCount, payload⟩)

/-- A notice handed to the Depot Link Port, admitted by `enqueue` (R140, R142). -/
def State.noticeWith (enqueue : State → DepotFrame → State) (s : State) (kind : Nat) (payload : List Byte) : State :=
  enqueue (s.countedFrame kind payload).1 (s.countedFrame kind payload).2

/-- The payload of a CONDITION notice: kind number, bay, active, timebase (R137, R168). -/
def conditionPayload (id : CondId) (active : Bool) (now : Time) : List Byte :=
  be 1 id.number.val ++ bayByte id.bay? ++ flagByte active ++ timeBytes now

/-- The payload of a HOLD notice: event (0 entered, 1 left), TRIP, the origin set (R137, R173). -/
def holdPayload (event : Nat) (c : Cmn) : List Byte :=
  be 1 event ++ flagByte c.trip ++ be 2 (bitsOf c.originDepot.list) ++
    allBays.flatMap fun b => be 2 (bitsOf (c.originBays.get b).list)

/-- Entry to hold (R173): flag and origin set, STOP, grants, setpoints, HOLD notice. -/
def State.enterHoldWith (enqueue : State → DepotFrame → State) (s : State) (id : CondId) : State :=
  let s1 := { s with cmn := { s.cmn.clearOrigin.addOrigin id with hold := true } }
  let s2 := s1.requestStop.zeroGrants.evalAllSetpoints
  s2.noticeWith enqueue 0x92 (holdPayload 0 s2.cmn)

/-- The hold rule for a condition that has become latched (R173). -/
def State.holdRuleWith (enqueue : State → DepotFrame → State) (s : State) (id : CondId) : State :=
  if s.cmn.map.hold.get id.number then
    if s.cmn.hold then { s with cmn := s.cmn.addOrigin id } else s.enterHoldWith enqueue id
  else s

/-- Raising a condition (R168), its notices admitted by `enqueue`. `present` says that the cause is present. Where the admission
of the CONDITION notice of step 1 itself raises RELAY_SHED or DEPOT_TX_OVERFLOW (R142), that raise is carried out whole, its trip
and hold rules included, before step 2 of this one: the model's choice (log entry 38, DESIGN CHOICE). -/
def State.raiseWith (enqueue : State → DepotFrame → State) (s : State) (id : CondId) (present : Bool) : State :=
  let before := s.flags id
  let s1 := s.setFlags id ⟨before.active, true⟩
  let s2 := if before.latched then s1
    else s1.noticeWith enqueue 0x91 (conditionPayload id (before.active || present) s.now)
  let s3 := if present then s2.setFlags id ⟨true, true⟩ else s2
  let s4 := s3.recomputeTrip
  if before.latched then s4 else s4.holdRuleWith enqueue id

/-- The admission of an answer or a notice with the conditions that it raises (R142). The number bounds the nesting: a
raise sends notices only when its condition was not latched, and a raise caused by an admission is of RELAY_SHED or of
DEPOT_TX_OVERFLOW, so at most two raises nested in an admission send notices, and the bound of `admitUpper` is never
reached (log entry 33, DEDUCED). The raise is carried out whole at the admission (log entry 38, DESIGN CHOICE). -/
def State.admitUpperN : Nat → State → DepotFrame → State
  | 0, s, f => { s with dlp := (s.dlp.placeUpper f).1 }
  | n + 1, s, f =>
    let placed := s.dlp.placeUpper f
    let t := { s with dlp := placed.1 }
    match placed.2 with
    | none => t
    | some k => t.raiseWith (State.admitUpperN n) (.depot k) false

/-- The admission of an answer or a notice (R142). -/
def State.admitUpper (s : State) (f : DepotFrame) : State := State.admitUpperN 3 s f

/-- Raising a condition (R168). `present` says that the cause is present; an instant kind is raised with `false`. -/
def State.raise (s : State) (id : CondId) (present : Bool) : State := s.raiseWith State.admitUpper id present

/-- The report that a cause has ended (R168): the condition becomes inactive and stays latched. -/
def State.endCause (s : State) (id : CondId) : State := s.setFlags id ⟨false, (s.flags id).latched⟩

/-- A notice that no entry of the relay map governs (R140). -/
def State.notice (s : State) (kind : Nat) (payload : List Byte) : State := s.noticeWith State.admitUpper kind payload

/-! ## Clearing -/

/-- The latched flag of a condition cleared when it is not active (R26, R170). -/
def Flags.acknowledge (f : Flags) : Flags := ⟨f.active, f.active && f.latched⟩

/-- The clearing of a bay's latched conditions that are not active, and TRIP (R26, R164, R172). -/
def State.clearInactive (s : State) (b : Bay) : State :=
  { s with cmn := { s.cmn with
      bays := s.cmn.bays.set b (Table.ofFn fun k => ((s.cmn.bays.get b).get k).acknowledge) } }.recomputeTrip

/-- The clearing of the named conditions of the depot scope that are not active (R170). -/
def State.ackDepot (s : State) (set : Nat) : State :=
  { s with cmn := { s.cmn with
      depot := Table.ofFn fun k =>
        if set.testBit k.val then (s.cmn.depot.get k).acknowledge else s.cmn.depot.get k } }.recomputeTrip

/-- The clearing of the named conditions of a bay that are not active (R170). -/
def State.ackBay (s : State) (b : Bay) (set : Nat) : State :=
  { s with cmn := { s.cmn with
      bays := s.cmn.bays.set b (Table.ofFn fun k =>
        if set.testBit k.val then ((s.cmn.bays.get b).get k).acknowledge else (s.cmn.bays.get b).get k) } }.recomputeTrip

end Sys2Proof.Machine
end

