-- ==== Sys2Proof/Machine/Relay.lean ====
section
/-! DEFINITION. The relay map at work (R143 to R147): what each upward item becomes, and the admission of relays. -/

namespace Sys2Proof.Machine

/-- The action of a relay map entry applied to an item (R145, R146): whether the item is sent up, and the decimation
counter afterwards. `changed` says that the on-change memory is absent or differs. -/
def RelayAction.filter (a : RelayAction) (count : Nat) (changed : Bool) : Bool × Nat :=
  match a with
  | .drop => (false, count)
  | .all => (true, count)
  | .onChange => (changed, count)
  | .everyN n => if n ≤ count + 1 then (true, 0) else (false, count + 1)
  | .pass => (false, count)
  | .refuse => (false, count)

/-- Whether an action keeps on-change memory. -/
def RelayAction.remembers : RelayAction → Bool
  | .onChange => true
  | _ => false

/-- A relay item handed to admission (R142). A pair has consecutive send counts (R147). -/
def State.sendRelay (s : State) (kind : Nat) (payload : List Byte) (second : Option (Nat × List Byte))
    (memo : Option MemoRef) : State :=
  let one := s.countedFrame kind payload
  let item : State × RelayItem :=
    match second with
    | none => (one.1, ⟨one.2, none, memo, false⟩)
    | some p =>
      let two := one.1.countedFrame p.1 p.2
      (two.1, ⟨one.2, some two.2, memo, false⟩)
  let placed := item.1.dlp.placeRelay item.2
  let t := { item.1 with dlp := placed.1 }
  match placed.2 with
  | none => t
  | some k => t.raise (.depot k) false

/-- The state with the decimation counters changed. -/
def State.setCounters (s : State) (f : Counters → Counters) : State :=
  { s with dlp := { s.dlp with counters := f s.dlp.counters } }

/-- The state with the on-change memory changed. -/
def State.setMemos (s : State) (f : Memos → Memos) : State :=
  { s with dlp := { s.dlp with memos := f s.dlp.memos } }

/-! ## BAY_STATE notices -/

/-- The payload of a BAY_STATE notice (R4, R137). -/
def bayStatePayload (b : Bay) (previous : BayState) (r : BayRecord) : List Byte :=
  encodeFields [.fixed (bayByte (some b)), .fixed (be 1 previous.code), .fixed (be 1 r.state.code),
    .opt 1 (r.reason.map QuarantineReason.code), .fixed (packIdBytes r.packId)]

/-- A BAY_STATE notice handed to the Depot Link Port (R4, R143): the relay map lets it through or drops it, and it is
admitted as a notice. -/
def State.bayStateNotice (s : State) (b : Bay) (previous : BayState) : State :=
  let out := s.dlp.map.bayState.filter (s.dlp.counters.bayState.get b) false
  let t := s.setCounters fun c => { c with bayState := c.bayState.set b out.2 }
  if out.1 then t.notice 0x93 (bayStatePayload b previous (s.bay b)) else t

/-! ## Relays -/

/-- The list of the first twelve cell-group voltages, or of the rest. -/
def cellBytes (cells : List Nat) : List Byte := cells.flatMap (be 2)

/-- The alive counter and the pack fault flag in one byte, placed as in segment 0 (R122, R137). -/
def aliveByte (p : PackRecord) : List Byte := be 1 (p.faultFlag.toNat * 128 + p.alive)

/-- The payload of a TELEMETRY relay (R147): the bay's values as they stand, and the applied record. -/
def telemetryPayload (b : Bay) (r : BayRecord) (p : PackRecord) : List Byte :=
  bayByte (some b) ++ be 1 r.state.code ++ be 1 ((r.session.map (·.stepIndex)).getD 0) ++ be 1 (r.urgency.getD 255) ++
    be 1 r.setpoint.mode.code ++ be 2 r.setpoint.current ++ be 2 r.setpoint.limit ++
    aliveByte p ++ be 4 p.packId ++ be 2 p.voltage ++ beInt 2 p.current ++ beInt 1 p.highest ++ beInt 1 p.lowest ++
    be 1 p.soc ++ be 1 p.groups ++ cellBytes (p.cells.take 12)

/-- The TELEMETRY_GROUPS frame of a record with more than 12 cell groups (R147). -/
def telemetryGroups (b : Bay) (p : PackRecord) : Option (Nat × List Byte) :=
  if 12 < p.groups then some (0xA1, bayByte (some b) ++ cellBytes (p.cells.drop 12)) else none

/-- The compared fields of a telemetry item (R146). -/
def telemetryMemo (r : BayRecord) (p : PackRecord) : TelemetryMemo :=
  ⟨r.state, r.session.map (·.stepIndex), p.soc, r.setpoint⟩

/-- An applied record handed over for the TELEMETRY entry (R115, R145 to R147). -/
def State.relayTelemetry (s : State) (b : Bay) (p : PackRecord) : State :=
  let a := s.dlp.map.telemetry
  let memo := telemetryMemo (s.bay b) p
  let out := a.filter (s.dlp.counters.telemetry.get b) (s.dlp.memos.telemetry.get b != some memo)
  let t := s.setCounters fun c => { c with telemetry := c.telemetry.set b out.2 }
  if out.1 then
    let u := if a.remembers then t.setMemos fun m => { m with telemetry := m.telemetry.set b (some memo) } else t
    u.sendRelay 0xA0 (telemetryPayload b (s.bay b) p) (telemetryGroups b p)
      (if a.remembers then some (.telemetry b) else none)
  else t

/-- A stage report handed over for the STAGE entry (R116, R145 to R147). -/
def State.relayStage (s : State) (b : Bay) (p : StageReport) : State :=
  let a := s.dlp.map.stage
  let memo : StageMemo := ⟨p.mode, p.code⟩
  let out := a.filter (s.dlp.counters.stage.get b) (s.dlp.memos.stage.get b != some memo)
  let t := s.setCounters fun c => { c with stage := c.stage.set b out.2 }
  if out.1 then
    let u := if a.remembers then t.setMemos fun m => { m with stage := m.stage.set b (some memo) } else t
    u.sendRelay 0xA2 (bayByte (some b) ++ be 1 p.mode.code ++ be 2 p.voltage ++ be 2 p.current ++ be 1 p.code) none
      (if a.remembers then some (.stage b) else none)
  else t

/-- A latch report handed over for the LATCH entry (R117, R145 to R147). -/
def State.relayLatch (s : State) (b : Bay) (latch : Latch) (presence : Presence) : State :=
  let a := s.dlp.map.latch
  let memo : LatchMemo := ⟨latch, presence⟩
  let out := a.filter (s.dlp.counters.latch.get b) (s.dlp.memos.latch.get b != some memo)
  let t := s.setCounters fun c => { c with latch := c.latch.set b out.2 }
  if out.1 then
    let u := if a.remembers then t.setMemos fun m => { m with latch := m.latch.set b (some memo) } else t
    u.sendRelay 0xA3 (bayByte (some b) ++ be 1 latch.code ++ be 1 presence.code) none
      (if a.remembers then some (.latch b) else none)
  else t

/-- A meter reading, as clamped, handed over for the METER entry (R118, R145 to R147). -/
def State.relayMeter (s : State) (watts : Nat) : State :=
  let a := s.dlp.map.meter
  let out := a.filter s.dlp.counters.meter (s.dlp.memos.meter != some watts)
  let t := s.setCounters fun c => { c with meter := out.2 }
  if out.1 then
    let u := if a.remembers then t.setMemos fun m => { m with meter := some watts } else t
    u.sendRelay 0xA4 (be 3 watts) none (if a.remembers then some .meter else none)
  else t

/-- A dock's service frame handed over for the SERVICE_UP entry (R149). -/
def State.relayService (s : State) (b : Bay) (payload : List Byte) : State :=
  let out := s.dlp.map.serviceUp.filter (s.dlp.counters.serviceUp.get b) false
  let t := s.setCounters fun c => { c with serviceUp := c.serviceUp.set b out.2 }
  if out.1 then t.sendRelay 0xA5 (bayByte (some b) ++ payload) none none else t

end Sys2Proof.Machine
end

