-- ==== Sys2Proof/Machine/Entry.lean ====
section
/-! DEFINITION. State entry (R4) with the fields that R1 ties to states, data freshness (R20, R21), and the closing of a
release record (R80). -/

namespace Sys2Proof.Machine

/-! ## Data freshness -/

/-- Whether a bay has no latest pack record or one whose age exceeds 3 s (R20). -/
def State.stale (s : State) (b : Bay) : Bool :=
  match (s.bay b).latest with
  | none => true
  | some a => decide (a.arrival + 3000 < s.now)

/-- The NO_DATA flag set (R20), with the escalation start of R21. -/
def State.setNoData (s : State) (b : Bay) : State :=
  let t := s.modBay b fun r =>
    { r with noData := true, escalation := if r.state.escalates && !s.lineStuck then some s.now else none }
  (t.raise (.bay .noData b) true).evalSetpoint b

/-- NO_DATA ended by an applied record (R14, R20, R21). -/
def State.endNoData (s : State) (b : Bay) : State :=
  if (s.bay b).noData then
    let t := s.modBay b fun r => { r with noData := false, escalation := none }
    (t.endCause (.bay .noData b)).evalSetpoint b
  else s

/-! ## State entry -/

/-- The escalation start after a move (R21): kept between two of the three states, set on entering them with the flag
set, absent outside them. -/
def State.escalationAfter (s : State) (r : BayRecord) (new : BayState) : Option Time :=
  if !new.escalates then none
  else if r.state.escalates then r.escalation
  else if r.noData && !s.lineStuck then some s.now
  else none

/-- The session after a move: kept in the identified states, absent elsewhere (R1); entering TEMP_WAIT sets both runs to 0
(R10). -/
def sessionAfter (x : Option Session) (new : BayState) (origin : Option Origin) : Option Session :=
  if identifiedState new origin then
    if new = .tempWait then x.map fun y => { y with taperRun := 0, endRun := 0 } else x
  else none

/-- Whether a state keeps the pack ID and the latest pack record (R1, R2, R19). -/
def BayState.keepsPack : BayState → Bool
  | .empty | .disabled => false
  | _ => true

/-- Whether a state, with the release origin, holds the ready time of a session that has one (R1): READY, CHARGING in a
top-up, and RELEASING from READY. A session in CHARGING has a first completion exactly in a top-up (R43, R45). -/
def holdsReadyTime (state : BayState) (origin : Option Origin) : Bool :=
  match state with
  | .ready | .charging => true
  | .releasing => origin == some .ready
  | _ => false

/-- A bay record on entering a state (R4; log entry 8, DEDUCED): the state-entry time, the fields that R1 ties to states, and what R2, R6, R10,
R12, R20 and R21 set on entry. -/
def State.entered (s : State) (new : BayState) (origin : Option Origin) (r : BayRecord) : BayRecord :=
  { r with
    state := new
    reason := if new = .quarantine ∨ (new = .releasing ∧ origin = some .quarantine) then r.reason else none
    origin := if new = .releasing then origin else none
    packId := if new.keepsPack then r.packId else none
    session := sessionAfter r.session new origin
    check := if new = .checking then some ⟨0, 0⟩ else none
    checkDeadline := if new = .checking then s.deadline 5000 else none
    identDeadline := if new = .identifying ∧ s.inService = true then s.deadline 10000 else none
    latest := if new.keepsPack then r.latest else none
    stage := if new = .disabled then none else r.stage
    latch := if new = .disabled then none else r.latch
    presence := if new = .disabled then none else r.presence
    noData := new.watched && r.noData
    frozen := !(new == .disabled) && r.frozen
    escalation := s.escalationAfter r new
    demand := if new = .disabled then 0 else r.demand
    applied := if new = .disabled then 0 else r.applied
    granted := if new = .disabled then 0 else r.granted
    urgency := if new = .charging then r.urgency else none
    readyTime := if holdsReadyTime new origin then r.session.bind (·.firstReady) else none
    entryTime := s.now
    longCool := false }

/-- A bay taken off the ready list, its order otherwise kept (R74). -/
def State.unlist (s : State) (b : Bay) : State :=
  { s with rot := { s.rot with ready := s.rot.ready.filter (fun c => c != b) } }

/-- The conditions that end because a bay leaves a state: NO_DATA on leaving the watched states (R20), OVER_TEMP on leaving
TEMP_WAIT (R10). -/
def State.endStateCauses (s : State) (b : Bay) (previous new : BayState) : State :=
  let t := if previous.watched && !new.watched then s.endCause (.bay .noData b) else s
  if previous = .tempWait ∧ new ≠ .tempWait then t.endCause (.bay .overTemp b) else t

/-- A state entry (R4; log entry 10, DEDUCED) up to its hand-offs to the Rotation Unit of entering READY and of leaving RELEASING, which
`State.enterState` and the release rules make. `origin` is the release origin when the new state is RELEASING. -/
def State.enterBase (s : State) (b : Bay) (new : BayState) (origin : Option Origin) : State :=
  let previous := (s.bay b).state
  let s1 := (s.modBay b (s.entered new origin)).endStateCauses b previous new
  let s2 := (s1.evalSetpoint b).bayStateNotice b previous
  let s3 := if new.watched && !(s2.bay b).noData && s2.stale b then s2.setNoData b else s2
  let s4 := if (previous == .charging) != (new == .charging) then s3.askRound else s3
  if previous = .ready ∧ new ≠ .ready ∧ new ≠ .releasing then (s4.unlist b).askRound else s4

/-! ## Release records -/

/-- The release record of a bay. -/
def State.release (s : State) (b : Bay) : Option ReleaseRecord := s.rot.releases.get b

/-- The state with the release record of a bay replaced. -/
def State.setRelease (s : State) (b : Bay) (r : Option ReleaseRecord) : State :=
  { s with rot := { s.rot with releases := s.rot.releases.set b r } }

/-- The closing of a release record, with the withdrawal of a waiting UNLATCH entry (R80, R126). -/
def State.closeRelease (s : State) (b : Bay) : State := (s.setRelease b none).withdrawUnlatch b

end Sys2Proof.Machine
end

