-- ==== Sys2Proof/Machine/Release.lean ====
section
/-! DEFINITION. The Rotation Unit: the ready list, the waiting list, the start of a release, its phases and its outcomes
(R72 to R89), and the state entry with all its hand-offs. -/

namespace Sys2Proof.Machine

/-! ## Notices -/

/-- The payload of a RELEASE notice (R89, R137). -/
def releasePayload (tag : Option Nat) (outcome : ReleaseOutcome) (b : Option Bay) (packId : Option Nat) : List Byte :=
  encodeFields [.opt 2 tag, .fixed (be 1 outcome.code), .fixed (bayByte b), .fixed (packIdBytes packId)]

/-- A RELEASE notice handed to the Depot Link Port (R89): the pack ID is that of the named bay. -/
def State.releaseNotice (s : State) (tag : Option Nat) (outcome : ReleaseOutcome) (b : Option Bay) : State :=
  s.notice 0x90 (releasePayload tag outcome b (b.bind fun c => (s.bay c).packId))

/-! ## The lists -/

/-- Whether a bay's pack is of a type. -/
def State.ofType (s : State) (t : Fin 8) (b : Bay) : Bool := (s.bay b).session.any fun x => x.packType == t

/-- The head for a type in the ready list (R72). -/
def State.readyHead (s : State) (t : Fin 8) : Option Bay := s.rot.ready.find? (s.ofType t)

/-- Whether a bay's registry entry has status WATCH. -/
def State.onWatch (s : State) (b : Bay) : Bool :=
  (s.bay b).session.any fun x => (s.registry.get x.registryIndex).any fun e => e.status == .watch

/-- Whether bay `b` stands before bay `c` in the ready list (R72): IN_FLEET before WATCH, then ready time, then number. -/
def State.readyBefore (s : State) (b c : Bay) : Bool :=
  let rb := ((s.bay b).readyTime).getD 0
  let rc := ((s.bay c).readyTime).getD 0
  if s.onWatch b != s.onWatch c then s.onWatch c
  else decide (rb < rc) || (rb == rc && decide (b < c))

/-- A bay inserted in the ready list at its place (R72, R73). -/
def insertReady (before : Bay → Bay → Bool) (b : Bay) : List Bay → List Bay
  | [] => [b]
  | c :: cs => if before b c then b :: c :: cs else c :: insertReady before b cs

/-- The ready list with a bay inserted. -/
def State.joinReady (s : State) (b : Bay) : State :=
  { s with rot := { s.rot with ready := insertReady s.readyBefore b s.rot.ready } }

/-- The waiting list replaced. -/
def State.setWaiting (s : State) (w : List WaitEntry) : State := { s with rot := { s.rot with waiting := w } }

/-- The waiting entry of a tag removed (R75). -/
def State.removeWaiting (s : State) (tag : Nat) : State :=
  s.setWaiting (s.rot.waiting.filter fun e => e.request.tag != tag)

/-! ## The start of a release -/

/-- The four ways in which a release starts (R81). -/
inductive Start where
  /-- A RELEASE_REQUEST answered SERVING (R77). -/
  | answered (request : Request)
  /-- The READY entry of a bay that serves a waiting entry (R73). -/
  | served (request : Request)
  /-- The service at once of a request returned after a failed release (R88). -/
  | returned (request : Request)
  /-- A RELEASE_BAY answered OK (R79). -/
  | byBay
deriving DecidableEq, Repr

def Start.request : Start → Option Request
  | .answered r | .served r | .returned r => some r
  | .byBay => none

def Start.kind : Start → ReleaseKind
  | .byBay => .maintenance
  | _ => .dispatch

/-- Whether the start sends a STARTED notice (R81 step 6). -/
def Start.announced : Start → Bool
  | .served _ | .returned _ => true
  | _ => false

/-- Whether the start removes a waiting entry (R81 step 2). -/
def Start.fromWaiting : Start → Bool
  | .served _ => true
  | _ => false

/-- The release origin of a state (R80). -/
def originOf : BayState → Origin
  | .quarantine => .quarantine
  | .fault => .fault
  | _ => .ready

/-- The state of a release origin. -/
def Origin.state : Origin → BayState
  | .ready => .ready | .quarantine => .quarantine | .fault => .fault

/-- Steps 1 to 4 of the start of a release (R81). -/
def State.openRelease (s : State) (b : Bay) (how : Start) : State :=
  let origin := originOf (s.bay b).state
  let s1 := s.unlist b
  let s2 := match how with
    | .served r => s1.removeWaiting r.tag
    | _ => s1
  let s3 := s2.setRelease b (some ⟨how.kind, how.request, origin, .unlatching, s.deadline 5000⟩)
  s3.enterBase b .releasing (some origin)

/-- What becomes of a dispatch request whose release failed (R88). `start` starts a release. -/
def State.requeueWith (start : State → Bay → Start → State) (s : State) (b : Bay) (q : Request)
    (outcome : ReleaseOutcome) : State :=
  match s.readyHead q.packType with
  | some head => start s head (.returned q)
  | none =>
    if q.limit = 0 ∨ 8 ≤ s.rot.waiting.length then s.releaseNotice (some q.tag) outcome (some b)
    else ((s.setWaiting (⟨q, s.now⟩ :: s.rot.waiting)).askRound).releaseNotice (some q.tag) .requeued (some b)

/-- The outcome of a failed release, from the record that it had (R83 steps 4 and 5, R87). -/
def State.endFailedWith (start : State → Bay → Start → State) (s : State) (b : Bay) (record : ReleaseRecord)
    (outcome : ReleaseOutcome) : State :=
  match record.kind, record.request with
  | .maintenance, _ => s.releaseNotice none outcome (some b)
  | .dispatch, some q => s.requeueWith start b q outcome
  | .dispatch, none => s

/-- A release that fails at the latch in UNLATCHING (R83; log entry 11, DEDUCED). -/
def State.latchFailureWith (start : State → Bay → Start → State) (s : State) (b : Bay) (record : ReleaseRecord) : State :=
  let s1 := (s.requestLatch b .relatch).1.raise (.bay .latch b) false
  let s2 := (s1.enterBase b .fault none).closeRelease b
  s2.endFailedWith start b record .latchFailed

/-- The start of a release (R81). A failed start may start the release of another ready bay (R83, R88), which leaves the
ready list by that: the number bounds this nesting by the sixteen bays, and the bound of `startRelease` is never reached
with a ready list without repeats (log entry 33, DEDUCED). -/
def State.startReleaseN : Nat → State → Bay → Start → State
  | 0, s, _, _ => s
  | n + 1, s, b, how =>
    let record : ReleaseRecord := ⟨how.kind, how.request, originOf (s.bay b).state, .unlatching, s.deadline 5000⟩
    let asked := (s.openRelease b how).requestLatch b .unlatch
    let t :=
      if asked.2 then
        if how.announced then asked.1.releaseNotice (how.request.map (·.tag)) .started (some b) else asked.1
      else asked.1.latchFailureWith (State.startReleaseN n) b record
    if s.rot.ready.contains b || how.fromWaiting then t.askRound else t

/-- The start of a release (R81). -/
def State.startRelease (s : State) (b : Bay) (how : Start) : State := State.startReleaseN 17 s b how

/-! ## Entering READY, and state entry with all hand-offs -/

/-- The Rotation Unit's part of an entry to READY (R73). -/
def State.readyEntered (s : State) (b : Bay) : State :=
  match (s.bay b).session with
  | none => s
  | some x =>
    match s.rot.waiting.find? fun e => e.request.packType == x.packType with
    | some e => s.startRelease b (.served e.request)
    | none => (s.joinReady b).askRound

/-- A state entry with its hand-offs (R4), for every new state but RELEASING. -/
def State.enterState (s : State) (b : Bay) (new : BayState) : State :=
  let t := s.enterBase b new none
  let u := if (s.bay b).state = .releasing then t.closeRelease b else t
  if new = .ready then u.readyEntered b else u

/-! ## Outcomes of a release -/

/-- A latch failure of a release in UNLATCHING (R83). -/
def State.latchFailure (s : State) (b : Bay) (record : ReleaseRecord) : State :=
  s.latchFailureWith State.startRelease b record

/-- A failure to relatch (R85). -/
def State.relatchFailure (s : State) (b : Bay) : State :=
  (s.raise (.bay .latch b) false).enterState b .fault

/-- The return of a bay to its release origin (R85). For origin READY both runs become 0. -/
def State.returnToOrigin (s : State) (b : Bay) (record : ReleaseRecord) : State :=
  (s.modBay b fun r => { r with session := r.session.map fun x => { x with endRun := 0, taperRun := 0 } }).enterState b
    record.origin.state

/-- The end of a release with the pack taken (R82, R84, R85). -/
def State.packTaken (s : State) (b : Bay) (record : ReleaseRecord) : State :=
  (s.releaseNotice (record.request.map (·.tag)) .released (some b)).enterState b .empty

/-- The NOT_COLLECTED notice, after which the record holds no tag (R84). -/
def State.notCollected (s : State) (b : Bay) (record : ReleaseRecord) : State :=
  (s.releaseNotice (record.request.map (·.tag)) .notCollected (some b)).setRelease b (some { record with request := none })

/-- A release moved to a phase with its full time (R82, R84, R86). -/
def State.setPhase (s : State) (b : Bay) (record : ReleaseRecord) (phase : Phase) (ms : Nat) : State :=
  s.setRelease b (some { record with phase := phase, deadline := s.deadline ms })

/-- The full time of a phase, in milliseconds (R86). -/
def Phase.time : Phase → Nat
  | .awaitingPickup => 120000
  | _ => 5000

/-- A latch report for a RELEASING bay (section 4.5: R82, R84, R85). -/
def State.releaseReport (s : State) (b : Bay) (latch : Latch) (presence : Presence) : State :=
  match s.release b with
  | none => s
  | some record =>
    match presence with
    | .absent => s.packTaken b record
    | .present =>
      match record.phase, latch with
      | .unlatching, .opened => s.setPhase b record .awaitingPickup Phase.awaitingPickup.time
      | .unlatching, .jammed => s.latchFailure b record
      | .unlatching, .closed => s
      | .awaitingPickup, .opened => s
      | .awaitingPickup, .closed => (s.notCollected b record).returnToOrigin b record
      | .awaitingPickup, .jammed => s.raise (.bay .latch b) false
      | .relatching, .opened => s
      | .relatching, .closed => s.returnToOrigin b record
      | .relatching, .jammed => s.relatchFailure b

/-- The end of the pickup time (R84). -/
def State.pickupEnded (s : State) (b : Bay) (record : ReleaseRecord) : State :=
  let s1 := s.notCollected b record
  let asked := s1.requestLatch b .relatch
  let s2 := asked.1.setPhase b { record with request := none } .relatching Phase.relatching.time
  if asked.2 then s2 else s2.relatchFailure b

/-- A LATCH_CMD entry discarded after 16 lost arbitrations (R128): a failure at the latch while the bay has a release
record. The phase of the record says which rule the failure follows, whatever the command of the entry: R85 in RELATCHING,
where the request has its outcome, and R83 in UNLATCHING and in AWAITING_PICKUP, where it has none yet. R83 names only the
UNLATCH in UNLATCHING, and R85 only the RELATCH in RELATCHING (log entry 35, DEDUCED). -/
def State.latchDiscarded (s : State) (b : Bay) : State :=
  match s.release b with
  | none => s
  | some record =>
    match record.phase with
    | .relatching => s.relatchFailure b
    | .unlatching | .awaitingPickup => s.latchFailure b record

/-- A move to FAULT for a fault of R15 or R16. A RELEASING bay's release ends ABORTED (R17, R87; log
entry 30, DEDUCED). -/
def State.faultBay (s : State) (b : Bay) : State :=
  match (s.bay b).state, s.release b with
  | .releasing, some record =>
    let s1 := s.enterBase b .fault none
    if record.phase = .relatching then s1.closeRelease b
    else ((s1.requestLatch b .relatch).1.closeRelease b).endFailedWith State.startRelease b record .aborted
  | _, _ => s.enterState b .fault

end Sys2Proof.Machine
end

