-- ==== Sys2Proof/Machine/Session.lean ====
section
/-! DEFINITION. The identity lookup and the session (R7 to R9, R95), and the Profile Engine's running of steps (R34 to R46),
with the registry's own updates (R101). -/

namespace Sys2Proof.Machine

/-! ## Profiles -/

/-- Whether a profile is complete (R27). -/
def Profile.complete (p : Profile) : Bool :=
  match p.head with
  | none => false
  | some h => (p.steps.list.take h.stepCount).all (·.isSome)

/-- Whether a profile is in use (R32). -/
def State.profileInUse (s : State) (p : Fin 8) : Bool := s.anySession none fun x => x.profile == p

/-! ## The identity lookup -/

/-- The filled entry that holds a pack ID (R95). -/
def State.findPack (s : State) (id : Nat) : Option (Fin 128 × RegEntry) :=
  (List.finRange 128).findSome? fun i =>
    match s.registry.get i with
    | some e => if e.packId = id then some (i, e) else none
    | none => none

/-- What a lookup finds (R7). -/
inductive Lookup where
  | quarantine (reason : QuarantineReason)
  | chargeable (index : Fin 128) (entry : RegEntry)
deriving DecidableEq, Repr

/-- The identity lookup of a bay (R7): the first test that holds decides. -/
def State.lookup (s : State) (b : Bay) : Lookup :=
  match (s.bay b).packId.bind s.findPack with
  | none => .quarantine .unknown
  | some found =>
    if found.2.status = .retired then .quarantine .retired
    else if !(s.profiles.get found.2.profile).complete then .quarantine .noProfile
    else if s.anySession (some b) (fun x => x.registryIndex == found.1) then .quarantine .duplicate
    else .chargeable found.1 found.2

/-- The condition that R7 raises for a quarantine reason. -/
def State.raiseReason (s : State) (b : Bay) : QuarantineReason → State
  | .unknown => s.raise (.bay .unknownPack b) false
  | .duplicate => s.raise (.bay .identity b) false
  | .retired => s
  | .noProfile => s

/-- The step charge remaining that a step begins with (R38). -/
def loadQuota (step : Option ProfileStep) : Option Nat :=
  match step with
  | some p => if p.quota = 0 then none else some (p.quota * 3600)
  | none => none

/-- A new session before its first quota is loaded (R8). -/
def newSession (index : Fin 128) (e : RegEntry) : Session where
  registryIndex := index
  packType := e.packType
  profile := e.profile
  stepIndex := 1
  stepTime := 0
  stepCharge := none
  sessionCharge := 0
  remainder := 0
  taperRun := 0
  endRun := 0
  checkDone := false
  counted := false
  firstReady := none

/-- Whether a record's temperatures keep a fresh session from charging (R8). -/
def startsWaiting (h : ProfileHead) (p : PackRecord) : Bool :=
  decide (h.startLimit ≤ p.highest) || decide (p.lowest < h.coldLimit)

/-- The start of a session (R8). -/
def State.beginSession (s : State) (b : Bay) (index : Fin 128) (e : RegEntry) : State :=
  let x := newSession index e
  let y := { x with stepCharge := loadQuota (s.stepOf x) }
  let t := s.modBay b fun r => { r with session := some y, reason := none }
  let waits := match s.headOf x, (s.bay b).latest with
    | some h, some a => startsWaiting h a.record
    | _, _ => false
  t.enterState b (if waits then .tempWait else .checking)

/-- The lookup of a bay in IDENTIFYING (R6, R7). -/
def State.identify (s : State) (b : Bay) : State :=
  match s.lookup b with
  | .quarantine reason =>
    ((s.modBay b fun r => { r with reason := some reason }).raiseReason b reason).enterState b .quarantine
  | .chargeable i e => s.beginSession b i e

/-- The lookup of one quarantined bay again (R9). -/
def State.reevaluateBay (s : State) (b : Bay) : State :=
  if (s.bay b).state = .quarantine then
    match s.lookup b with
    | .chargeable i e => s.beginSession b i e
    | .quarantine reason =>
      if (s.bay b).reason = some reason then s
      else (s.modBay b fun r => { r with reason := some reason }).raiseReason b reason
  else s

/-- The re-evaluation of every quarantined bay, in ascending bay number (R9, R99). -/
def State.reevaluate (s : State) : State := allBays.foldl State.reevaluateBay s

/-! ## Charge metering -/

/-- The top of the 32-bit counts of R34. -/
def maxCount : Nat := 4294967295

/-- The metering of one record over an interval (R37, R38). -/
def Session.meter (x : Session) (current : Int) (interval : Nat) : Session :=
  let total := x.remainder + current.toNat * min interval 3000
  let whole := total / 1000
  { x with
    remainder := total % 1000
    sessionCharge := min maxCount (x.sessionCharge + whole)
    stepCharge := x.stepCharge.map fun q => q - whole }

/-- The session of a bay changed. -/
def State.modSession (s : State) (b : Bay) (f : Session → Session) : State :=
  s.modBay b fun r => { r with session := r.session.map f }

/-- The metering of an applied record by the Profile Engine (R37). `previous` is the record that was the latest before. -/
def State.meterRecord (s : State) (b : Bay) (a : Arrived) (previous : Option Arrived) : State :=
  s.modSession b fun x => x.meter a.record.current (a.arrival - (previous.elim a.arrival (·.arrival)))

/-! ## Ending a step -/

/-- The registry's own update at the completion of a session (R101). -/
def RegEntry.count (e : RegEntry) (sessionCharge : Nat) : RegEntry :=
  { e with cycles := min 65535 (e.cycles + 1), lastCharge := min 65535 (sessionCharge / 3600) }

/-- The updates of the first completion of a session (R43, R101). The ready time stands in the record from the entry to
READY that follows in the same event. -/
def State.countSession (s : State) (b : Bay) (x : Session) : State :=
  { s.modBay b fun r => { r with session := some { x with counted := true, firstReady := some s.seconds } } with
    registry := s.registry.set x.registryIndex ((s.registry.get x.registryIndex).map (·.count x.sessionCharge)) }

/-- The completion of the last step (R43): counted once, both runs 0, READY. -/
def State.completeSession (s : State) (b : Bay) : State :=
  match (s.bay b).session with
  | none => s
  | some x =>
    let t := if x.counted then s else s.countSession b x
    (t.modSession b fun y => { y with taperRun := 0, endRun := 0 }).enterState b .ready

/-- The move to the next step (R41). -/
def State.nextStep (s : State) (b : Bay) (x : Session) : State :=
  let y := { x with stepIndex := x.stepIndex + 1, stepTime := 0, taperRun := 0, endRun := 0 }
  let t := s.modBay b fun r => { r with session := some { y with stepCharge := loadQuota (s.stepOf y) } }
  (t.evalSetpoint b).askRound

/-- The end of a bay's current step (R41, R43). -/
def State.endStep (s : State) (b : Bay) : State :=
  match (s.bay b).session with
  | none => s
  | some x =>
    if ((s.headOf x).elim 0 (·.stepCount)) ≤ x.stepIndex then s.completeSession b else s.nextStep b x

/-! ## Exit tests and top-up -/

/-- A run increased, stopping at 3 (R34). -/
def bump (run : Nat) : Nat := min 3 (run + 1)

/-- The run that a step's kind uses, moved by a record (R39, R40). -/
def Session.moveRuns (x : Session) (step : ProfileStep) (setCurrent : Nat) (p : PackRecord) : Session :=
  match step.kind with
  | .cc => { x with endRun := if step.endVoltage ≤ p.voltage then bump x.endRun else 0 }
  | .cv =>
    if setCurrent ≤ step.taper then x
    else { x with taperRun := if p.current ≤ step.taper then bump x.taperRun else 0 }
  | .rest => x
  | .equalize => x

/-- The exit tests that depend on records (R33, R41). -/
def Session.exits (x : Session) (step : ProfileStep) : Bool :=
  match step.kind with
  | .cc => decide (3 ≤ x.endRun) || x.stepCharge == some 0
  | .cv => decide (3 ≤ x.taperRun) || x.stepCharge == some 0
  | .equalize => x.stepCharge == some 0
  | .rest => false

/-- The exit tests of a record for a bay in CHARGING (R39 to R41). -/
def State.testExits (s : State) (b : Bay) (p : PackRecord) : State :=
  match s.bayStep b with
  | none => s
  | some step =>
    let t := s.modSession b fun x => x.moveRuns step (s.bay b).setpoint.current p
    if (t.bay b).session.any (fun x => x.exits step) then t.endStep b else t

/-- A top-up start (R45). -/
def State.startTopUp (s : State) (b : Bay) : State :=
  let t := s.modSession b fun x =>
    { x with stepTime := 0, taperRun := 0, endRun := 0, stepCharge := loadQuota (s.stepOf x) }
  t.enterState b .charging

/-- The top-up test of a record in READY (R44). -/
def State.testTopUp (s : State) (b : Bay) (p : PackRecord) : State :=
  match s.bayHead b with
  | none => s
  | some h =>
    if h.topUp = 0 then s
    else
      let t := s.modSession b fun x => { x with endRun := if p.voltage < h.topUp then bump x.endRun else 0 }
      if (t.bay b).session.any (fun x => decide (3 ≤ x.endRun)) then t.startTopUp b else t

/-! ## Step time -/

/-- Whether a bay's step time advances (R35). -/
def State.stepTimeRuns (s : State) (b : Bay) : Bool :=
  (s.bay b).state == .charging && !s.cmn.hold &&
    ((s.bayStep b).any (fun p => p.kind == .rest) || decide (0 < (s.bay b).setpoint.current))

/-- The step time advance at a seconds advance (R35). -/
def State.advanceStepTimes (s : State) : State :=
  s.modBays fun b r =>
    if s.stepTimeRuns b then
      { r with session := r.session.map fun x => { x with stepTime := min maxCount (x.stepTime + 1) } }
    else r

/-- Whether a bay's current step has timed out (R36). -/
def State.stepTimedOut (s : State) (b : Bay) : Bool :=
  (s.bay b).state == .charging &&
    match (s.bay b).session, s.bayStep b with
    | some x, some p => p.maxTime != 0 && decide (p.maxTime * 60 ≤ x.stepTime)
    | _, _ => false

/-- A step timeout (R36). -/
def State.timeoutStep (s : State) (b : Bay) : State :=
  match s.bayStep b with
  | none => s
  | some step =>
    match step.onTimeout with
    | .advance => s.endStep b
    | .fault => (s.raise (.bay .stepTimeout b) false).enterState b .fault

end Sys2Proof.Machine
end

