-- ==== Sys2Proof/Machine/Records.lean ====
section
/-! DEFINITION. Dock reports: the Bay Sequencer's handling of records, stage reports and latch reports (R5 to R19), and the
Report Decoder in front of it (R104 to R119), with meter supervision (R68 to R70). -/

namespace Sys2Proof.Machine

/-! ## Applied records -/

/-- The conditions that the fault tests of R15 find for a record, in the order of the table. -/
def State.recordFaults (s : State) (b : Bay) (p : PackRecord) : List BayKind :=
  let r := s.bay b
  let overVolt := match s.bayHead b with
    | some h => r.identified && (decide (h.packOv < p.voltage) || p.cells.any fun v => decide (h.cellOv < v))
    | none => false
  (if p.faultFlag then [.packFault] else []) ++
    (if r.packId.any (fun id => id != p.packId) then [.identity] else []) ++
    (if overVolt then [.overVolt] else [])

/-- Whether a record is at or above the profile's abort temperature limit (R10). -/
def State.tooHot (s : State) (b : Bay) (p : PackRecord) : Bool :=
  (s.bayHead b).any fun h => decide (h.abortLimit ≤ p.highest)

/-- Whether a record is below the profile's cold limit (R10). -/
def State.tooCold (s : State) (b : Bay) (p : PackRecord) : Bool :=
  (s.bayHead b).any fun h => decide (p.lowest < h.coldLimit)

/-- The over-temperature and cold tests of a bay in CHECKING or CHARGING (R10). -/
def State.testTemperature (s : State) (b : Bay) (p : PackRecord) : State :=
  if s.tooHot b p then (s.raise (.bay .overTemp b) true).enterState b .tempWait
  else if s.tooCold b p then s.enterState b .tempWait
  else s

/-- The exit test of TEMP_WAIT, and the end of OVER_TEMP (R10, R11). -/
def State.testTempExit (s : State) (b : Bay) (p : PackRecord) : State :=
  match s.bayHead b with
  | none => s
  | some h =>
    if p.highest ≤ h.resumeLimit then
      let t := s.endCause (.bay .overTemp b)
      if h.coldLimit ≤ p.lowest then
        t.enterState b (if (s.bay b).session.any (·.checkDone) then .charging else .checking)
      else t
    else s

/-- The storing of a record as the latest pack record, with the capture of the pack ID in IDENTIFYING (R6, R14; log
entry 12, DEDUCED). -/
def State.storeRecord (s : State) (b : Bay) (a : Arrived) : State :=
  s.modBay b fun r =>
    { r with
      latest := some a
      packId := if r.state = .identifying ∧ r.packId = none then some a.record.packId else r.packId }

/-- The third step of R14: the record acts by state. -/
def State.recordByState (s : State) (b : Bay) (a : Arrived) (previous : Option Arrived) : State :=
  match (s.bay b).state with
  | .identifying => s.identify b
  | .tempWait => s.testTempExit b a.record
  | .checking => s.testTemperature b a.record
  | .charging =>
    let t := (s.testTemperature b a.record).meterRecord b a previous
    if (t.bay b).state = .charging then t.testExits b a.record else t
  | .ready => s.testTopUp b a.record
  | .quarantine => s
  | .releasing => s
  | .disabled => s
  | .empty => s
  | .fault => s

/-- An applied record for a bay in a state with a pack during IN_SERVICE (R14, R15). A record that sends a CHARGING bay to
FAULT is still handed to the Profile Engine for metering, which finds no session left to meter (R18). -/
def State.recordInService (s : State) (b : Bay) (a : Arrived) : State :=
  let previous := (s.bay b).latest
  let s1 := (s.storeRecord b a).endNoData b
  let faults := s1.recordFaults b a.record
  if faults.isEmpty then s1.recordByState b a previous
  else ((faults.foldl (fun t k => t.raise (.bay k b) false) s1).faultBay b).meterRecord b a previous

/-- The Bay Sequencer's handling of an applied record (R5, R6, R14, R15, R18, R115). -/
def State.applyRecord (s : State) (b : Bay) (a : Arrived) : State :=
  match (s.bay b).state with
  | .disabled => s
  | .empty => s
  | .fault => s.storeRecord b a
  | .identifying | .quarantine | .tempWait | .checking | .charging | .ready | .releasing =>
    if s.inService then s.recordInService b a else s.storeRecord b a

/-! ## Stage reports -/

/-- The runs of the connection check after a stage report (R12). -/
def CheckRuns.after (c : CheckRuns) (output pack : Nat) : CheckRuns :=
  if output ≤ pack + 500 ∧ pack ≤ output + 500 then ⟨c.pass + 1, 0⟩
  else if output < 1000 then ⟨0, c.low + 1⟩
  else ⟨0, 0⟩

/-- The connection check on a stage report (R12). -/
def State.connectionCheck (s : State) (b : Bay) (p : StageReport) : State :=
  match (s.bay b).check, (s.bay b).latest with
  | some c, some a =>
    let c' := c.after p.voltage a.record.voltage
    let t := s.modBay b fun r => { r with check := some c' }
    if 2 ≤ c'.pass then (t.modSession b fun x => { x with checkDone := true }).enterState b .charging
    else if 2 ≤ c'.low then (t.raise (.bay .connection b) false).enterState b .fault
    else t
  | _, _ => s

/-- The Bay Sequencer's handling of a stage report (R5, R12, R16, R18). -/
def State.applyStage (s : State) (b : Bay) (p : StageReport) : State :=
  let t := s.modBay b fun r => { r with stage := some p }
  match (s.bay b).state with
  | .disabled => s
  | .fault => t
  | .empty => if p.mode = .fault then t.raise (.bay .stageFault b) false else t
  | .identifying | .quarantine | .tempWait | .checking | .charging | .ready | .releasing =>
    if p.mode = .fault then
      let u := t.raise (.bay .stageFault b) false
      if s.inService then u.faultBay b else u
    else if (s.bay b).state = .checking then t.connectionCheck b p
    else t

/-! ## Latch reports -/

/-- The Bay Sequencer's handling of a latch report (R5, R17 to R19); in RELEASING the release rules read it. -/
def State.applyLatch (s : State) (b : Bay) (latch : Latch) (presence : Presence) : State :=
  let t := s.modBay b fun r => { r with latch := some latch, presence := some presence }
  match (s.bay b).state with
  | .disabled => s
  | .empty =>
    if latch = .jammed then t.raise (.bay .latch b) false
    else if latch = .closed ∧ presence = .present then t.enterState b .identifying
    else t
  | .fault => if presence = .absent then t.enterState b .empty else t
  | .releasing => t.releaseReport b latch presence
  | .identifying | .quarantine | .tempWait | .checking | .charging | .ready =>
    if presence = .absent then (t.raise (.bay .unexpectedRemoval b) false).enterState b .empty
    else if latch = .closed then t
    else (t.raise (.bay .latch b) false).enterState b .fault

/-! ## The Report Decoder's own state -/

/-- The assembly record of a bay replaced (R104). -/
def State.setAssembly (s : State) (b : Bay) (x : Option Assembling) : State :=
  { s with rdc := { s.rdc with assembly := s.rdc.assembly.set b x } }

/-- The alive history of a bay replaced (R104). -/
def State.setAlive (s : State) (b : Bay) (x : Alive) : State :=
  { s with rdc := { s.rdc with alive := s.rdc.alive.set b x } }

/-- The end of FROZEN_DATA where the FROZEN flag is set (R112, R114). -/
def State.endFrozen (s : State) (b : Bay) : State :=
  if (s.bay b).frozen then
    (s.modBay b fun r => { r with frozen := false }).endCause (.bay .frozenData b)
  else s

/-- The partial record discarded and the alive history cleared (R110, R114). -/
def State.clearDecoder (s : State) (b : Bay) : State :=
  ((s.setAssembly b none).setAlive b ⟨none, 0⟩).endFrozen b

/-! ## Checking a complete record -/

/-- A value clamped to a range. -/
def clampInt (low high v : Int) : Int := max low (min high v)

/-- The clamping of a record that is applied (R111). -/
def PackRecord.clamped (p : PackRecord) : PackRecord :=
  { p with
    current := clampInt (-2000) 2000 p.current
    highest := clampInt (-40) 125 p.highest
    lowest := clampInt (-40) 125 p.lowest
    soc := min 100 p.soc }

/-- A repeated record (R112). -/
def State.repeatRecord (s : State) (b : Bay) : State :=
  let h := s.rdc.alive.get b
  let t := s.setAlive b { h with repeats := min 3 (h.repeats + 1) }
  if h.repeats = 2 then
    (t.modBay b fun r => { r with frozen := true }).raise (.bay .frozenData b) true
  else t

/-- A record that is applied (R111, R112, R115): the alive history, the end of FROZEN_DATA, the hand-off to the Bay
Sequencer, and then the copy for relay. -/
def State.deliverRecord (s : State) (b : Bay) (p : PackRecord) (arrival : Time) : State :=
  let q := p.clamped
  let t := (s.setAlive b ⟨some p.alive, 0⟩).endFrozen b
  (t.applyRecord b ⟨q, arrival⟩).relayTelemetry b q

/-- The checks of a complete record (R111): the first that holds decides. -/
def State.completeRecord (s : State) (b : Bay) (p : PackRecord) (arrival : Time) : State :=
  if p.packId = 0 then s
  else if p.highest < p.lowest then s
  else if (s.rdc.alive.get b).last = some p.alive then s.repeatRecord b
  else s.deliverRecord b p arrival

/-! ## Frames of the receive queue -/

/-- What the Report Decoder takes a frame for: its class, its source and, for telemetry, its segment index (R105). -/
inductive FrameUse where
  | segment0 (bay : Bay)
  | group (bay : Bay)
  | stage (bay : Bay)
  | latch (bay : Bay)
  | meter
  | service (bay : Bay)
  | ignored
deriving DecidableEq, Repr

/-- The class of a frame: the header's upper three bits (R122). -/
def LineFrame.cls (f : LineFrame) : Nat := f.header.toNat / 32

/-- The source station of a frame (R122). -/
def LineFrame.source (f : LineFrame) : Nat := f.header.toNat % 32

/-- The segment index of a telemetry frame: the upper four bits of its first byte (R122). -/
def LineFrame.segmentIndex (f : LineFrame) : Nat := field f.payload 0 1 / 16

/-- The routing of a frame (R105). A telemetry frame without a payload has no index: it is taken as a group segment,
whose form check drops it (R106; log entry 29, DEDUCED). -/
def State.frameUse (s : State) (f : LineFrame) : FrameUse :=
  if f.cls = 5 then (if f.source = 31 then .meter else .ignored)
  else
    match bayOf f.source with
    | none => .ignored
    | some b =>
      if (s.bay b).state = .disabled then .ignored
      else if f.cls = 6 then
        (if !f.payload.isEmpty && f.segmentIndex == 0 then .segment0 b else .group b)
      else if f.cls = 3 then .stage b
      else if f.cls = 4 then .latch b
      else if f.cls = 7 then .service b
      else .ignored

/-- The oldest frame of the receive queue, and the state without it (R104). -/
def State.takeLine (s : State) : Option (LineFrame × State) :=
  match s.blc.rx with
  | [] => none
  | f :: fs => some (f, { s with blc := { s.blc with rx := fs } })

/-- A frame whose payload has not the form of its class (R106). -/
def State.badForm (s : State) : State := s.raise (.depot .lineRxError) false

/-- The segment 0 fields of a payload (R122). -/
def segment0Record (p : List Byte) : PackRecord where
  total := field p 0 1 % 16
  alive := field p 1 1 % 4
  faultFlag := decide (128 ≤ field p 1 1)
  packId := field p 2 4
  voltage := field p 6 2
  current := signedField p 8 2
  highest := signedField p 10 1
  lowest := signedField p 11 1
  soc := field p 12 1
  groups := field p 13 1
  cells := []

/-- A segment 0 taken for a bay (R106, R107). -/
def State.takeSegment0 (s : State) (b : Bay) (f : LineFrame) : State :=
  if f.payload.length ≠ 14 then s.badForm
  else
    let p := segment0Record f.payload
    let t := s.setAssembly b none
    if 24 < p.groups then t
    else if p.total ≠ 1 + (p.groups + 3) / 4 then t
    else if p.total = 1 then t.completeRecord b p f.stamp
    else t.setAssembly b (some ⟨1, f.stamp, p⟩)

/-- The voltages of a group segment (R122). -/
def groupVoltages (p : List Byte) : List Nat :=
  (List.range ((p.length - 1) / 2)).map fun k => field p (1 + 2 * k) 2

/-- Whether a group segment has the form of its class (R106). -/
def groupFormOk (f : LineFrame) : Bool :=
  decide (f.segmentIndex ≤ 6) &&
    (f.payload.length == 3 || f.payload.length == 5 || f.payload.length == 7 || f.payload.length == 9)

/-- The number of voltages that the place of a group segment requires (R108). -/
def requiredVoltages (x : Assembling) : Nat :=
  if x.expected + 1 = x.part.total then x.part.groups - 4 * (x.expected - 1) else 4

/-- A group segment taken for a bay (R106, R108). -/
def State.takeGroup (s : State) (b : Bay) (f : LineFrame) : State :=
  if !groupFormOk f then s.badForm
  else
    match s.rdc.assembly.get b with
    | none => s
    | some x =>
      let voltages := groupVoltages f.payload
      if f.segmentIndex = x.expected ∧ f.stamp ≤ x.stamp + 40 ∧ voltages.length = requiredVoltages x then
        let part := { x.part with cells := x.part.cells ++ voltages }
        if x.expected + 1 = x.part.total then (s.setAssembly b none).completeRecord b part f.stamp
        else s.setAssembly b (some ⟨x.expected + 1, f.stamp, part⟩)
      else s.setAssembly b none

/-- A stage report taken for a bay (R106, R116). -/
def State.takeStage (s : State) (b : Bay) (f : LineFrame) : State :=
  match f.payload.length == 6, stageModeOf (field f.payload 0 1) with
  | true, some mode =>
    let p : StageReport := ⟨mode, field f.payload 1 2, min 2000 (field f.payload 3 2), field f.payload 5 1⟩
    (s.applyStage b p).relayStage b p
  | _, _ => s.badForm

/-- A latch report taken for a bay (R106, R117). -/
def State.takeLatch (s : State) (b : Bay) (f : LineFrame) : State :=
  match f.payload.length == 2, latchOf (field f.payload 0 1), presenceOf (field f.payload 1 1) with
  | true, some latch, some presence =>
    let t := if presence = .absent then s.clearDecoder b else s
    (t.applyLatch b latch presence).relayLatch b latch presence
  | _, _, _ => s.badForm

/-- A service frame taken from a dock (R106, R118). -/
def State.takeService (s : State) (b : Bay) (f : LineFrame) : State :=
  if 14 < f.payload.length then s.badForm else s.relayService b f.payload

/-! ## Meter supervision -/

/-- The Feeder Allocator's state changed. -/
def State.modFal (s : State) (f : Fal → Fal) : State := { s with fal := f s.fal }

/-- The end of METER_SILENT (R69). -/
def State.endMeterSilent (s : State) : State :=
  if s.fal.meterSilent then
    (((s.modFal fun x => { x with meterSilent := false }).endCause (.depot .meterSilent)).recomputeBudget).askRound
  else s

/-- The FEEDER_OVER tests (R70). -/
def State.feederTest (s : State) (watts : Nat) : State :=
  if s.fal.effective + s.fal.budget.margin < watts then
    let run := min 3 (s.fal.overRun + 1)
    let t := s.modFal fun x => { x with overRun := run }
    if run = 3 ∧ s.fal.feederOver = false then
      (t.modFal fun x => { x with feederOver := true }).raise (.depot .feederOver) true
    else t
  else if s.fal.effective < watts then s.modFal fun x => { x with overRun := 0 }
  else
    let t := s.modFal fun x => { x with overRun := 0, feederOver := false }
    if s.fal.feederOver then t.endCause (.depot .feederOver) else t

/-- A meter report taken (R68, R106, R118; log entry 19, DEDUCED). -/
def State.takeMeter (s : State) (f : LineFrame) : State :=
  if f.payload.length ≠ 3 then s.badForm
  else
    let watts := min 200000 (field f.payload 0 3)
    let t := ((s.modFal fun x => { x with meterArrival := some s.now }).endMeterSilent).feederTest watts
    ({ t with rdc := { t.rdc with lastMeter := some ⟨watts, f.stamp⟩ } }).relayMeter watts

/-! ## The meanings of the Report Decoder's steps -/

/-- SEGMENT_0 (R104 to R107). -/
def execSegment0 (s : State) : Host.Outcome State Fault Refusal :=
  .next <| match s.takeLine with
    | none => s
    | some (f, t) => match s.frameUse f with
      | .segment0 b => t.takeSegment0 b f
      | _ => s

/-- GROUP_SEGMENT (R104 to R106, R108). -/
def execGroupSegment (s : State) : Host.Outcome State Fault Refusal :=
  .next <| match s.takeLine with
    | none => s
    | some (f, t) => match s.frameUse f with
      | .group b => t.takeGroup b f
      | _ => s

/-- STAGE_REPORT (R116). -/
def execStageReport (s : State) : Host.Outcome State Fault Refusal :=
  .next <| match s.takeLine with
    | none => s
    | some (f, t) => match s.frameUse f with
      | .stage b => t.takeStage b f
      | _ => s

/-- LATCH_REPORT (R117). -/
def execLatchReport (s : State) : Host.Outcome State Fault Refusal :=
  .next <| match s.takeLine with
    | none => s
    | some (f, t) => match s.frameUse f with
      | .latch b => t.takeLatch b f
      | _ => s

/-- METER_REPORT (R68, R118). -/
def execMeterReport (s : State) : Host.Outcome State Fault Refusal :=
  .next <| match s.takeLine with
    | none => s
    | some (f, t) => match s.frameUse f with
      | .meter => t.takeMeter f
      | _ => s

/-- DOCK_SERVICE_FRAME (R118). -/
def execDockServiceFrame (s : State) : Host.Outcome State Fault Refusal :=
  .next <| match s.takeLine with
    | none => s
    | some (f, t) => match s.frameUse f with
      | .service b => t.takeService b f
      | _ => s

/-- IGNORED_FRAME (R105): the frame is taken and dropped. -/
def execIgnoredFrame (s : State) : Host.Outcome State Fault Refusal :=
  .next <| match s.takeLine with
    | none => s
    | some (f, t) => match s.frameUse f with
      | .ignored => t
      | _ => s

end Sys2Proof.Machine
end

