-- ==== Sys2Proof/Machine/Requests.lean ====
section
/-! DEFINITION. How a request is taken and answered (R139, R151), the restart values (R163), and the requests that change
the service, ask for packs, and acknowledge (R26, R77 to R79, R148, R160 to R164, R170, R174). -/

namespace Sys2Proof.Machine

/-! ## Taking and answering -/

/-- An answer: the kind of the request plus 40h, its tag, the result code and further content (R136, R137). -/
def State.answer (s : State) (f : DepotFrame) (result : Result) (extra : List Byte) : State :=
  s.admitUpper ⟨f.kind + 0x40, f.tag, be 1 result.code ++ extra⟩

/-- The oldest frame of the receive queue, and the state without it; none while a restart is pending (R139, R162). -/
def State.takeRequest (s : State) : Option (DepotFrame × State) :=
  if s.mgu.restartPending then none
  else
    match s.dlp.rx with
    | [] => none
    | f :: fs => some (f, { s with dlp := { s.dlp with rx := fs } })

/-- The execution of a request of one kind: the oldest frame is taken when it is of that kind; a frame with a payload
length that the kind does not allow is answered BAD_FRAME (R139), and another is executed by `body`. With no such frame
at the front, nothing happens (log entry 3, DEDUCED). -/
def State.runRequest (s : State) (kind : Nat) (lengthOk : Nat → Bool) (body : State → DepotFrame → State) : State :=
  match s.takeRequest with
  | none => s
  | some (f, t) =>
    if f.kind = kind then
      (if lengthOk f.payload.length then body t f else t.answer f .badFrame [])
    else s

/-- The first test that holds gives the answer. -/
def firstTest : List (Bool × Result) → Result
  | [] => .ok
  | (holds, r) :: rest => if holds then r else firstTest rest

/-- Whether a kind is a request kind (R136). -/
def isRequestKind (k : Nat) : Bool := decide (1 ≤ k ∧ k ≤ 0x15)

/-- UNKNOWN_KIND_FRAME (R139): kind 7Fh, UNKNOWN_KIND and the offending kind byte. -/
def execUnknownKindFrame (s : State) : Host.Outcome State Fault Refusal :=
  .next <| match s.takeRequest with
    | none => s
    | some (f, t) =>
      if isRequestKind f.kind then s
      else t.admitUpper ⟨0x7F, f.tag, be 1 Result.unknownKind.code ++ be 1 f.kind⟩

/-! ## Reset and restart -/

/-- The part after power-on reset: the reset values, with the model's own queue and counter kept (log entry 5, DESIGN CHOICE). -/
def State.powerOn (s : State) : State := { State.reset with pending := s.pending, freeCount := s.freeCount }

/-- POWER_ON_RESET (R25, R27, R71, R93, R94, R119, R134, R150, R166, R175). -/
def execPowerOnReset (s : State) : Host.Outcome State Fault Refusal := .next s.powerOn

/-- The part after RESTART takes effect (R163): the reset values, except what each chapter keeps. -/
def State.restarted (s : State) : State :=
  { State.reset with
    bays := Table.ofFn fun b =>
      { BayRecord.reset with state := if (s.config.get b).enabled then .empty else .disabled }
    config := s.config
    profiles := s.profiles
    registry := s.registry
    fal := { Fal.reset with budget := s.fal.budget }
    rot := { Rot.reset with shiftCall := s.rot.shiftCall }
    blc := { Blc.reset with refresh := Table.ofFn fun b => if (s.config.get b).enabled then some 0 else none }
    dlp := { Dlp.reset with map := s.dlp.map, idleLeft := 3 }
    cmn := { Cmn.reset with map := s.cmn.map }
    pending := s.pending
    freeCount := s.freeCount }

/-- Whether a frame is the answer OK to RESTART (R141, R162). -/
def isRestartAnswer (f : DepotFrame) : Bool := f.kind == 0x54 && f.payload == [0#8]

/-- RESTART executed (R162): the answer is placed and the restart is pending; when the answer is discarded, the restart
takes effect at once (R141; log entry 28, DEDUCED). -/
def restartRequest (s : State) (f : DepotFrame) : State :=
  let t := ({ s with mgu := { s.mgu with restartPending := true } }).answer f .ok []
  if t.dlp.upper.any isRestartAnswer then t else t.restarted

/-- RESTART (R162). -/
def execRestart (s : State) : Host.Outcome State Fault Refusal :=
  .next (s.runRequest 0x14 (· == 0) restartRequest)

/-! ## Service -/

/-- The service state replaced. -/
def State.setService (s : State) (v : ServiceState) : State := { s with mgu := { s.mgu with service := v } }

/-- Identifying deadlines given to the bays in IDENTIFYING (R6, R24). -/
def State.startIdentifying (s : State) : State :=
  s.modBays fun _ r => if r.state = .identifying then { r with identDeadline := s.deadline 10000 } else r

/-- START_SERVICE executed (R160). -/
def startServiceRequest (s : State) (f : DepotFrame) : State :=
  let result := firstTest [(s.inService, .wrongState), (s.fal.budget.feeder == 0, .badValue),
    (!allBays.any (fun b => (s.config.get b).enabled), .badValue)]
  if result = .ok then
    (((s.setService .inService).startIdentifying.evalAllSetpoints).recomputeBudget).answer f .ok []
  else s.answer f result []

/-- START_SERVICE (R160). -/
def execStartService (s : State) : Host.Outcome State Fault Refusal :=
  .next (s.runRequest 0x0C (· == 0) startServiceRequest)

/-- The end of every waiting entry at STOP_SERVICE, in list order (R93, R161 step 1). No round runs at STOP_SERVICE
(log entry 7, DEDUCED). -/
def State.cancelAll (s : State) : State :=
  s.rot.waiting.foldl
    (fun t e => (t.removeWaiting e.request.tag).releaseNotice (some e.request.tag) .cancelled none) s

/-- Whether STOP_SERVICE moves a bay in a state to IDENTIFYING (R24, R161 step 3). -/
def BayState.stopsToIdentifying : BayState → Bool
  | .quarantine | .tempWait | .checking | .charging | .ready => true
  | _ => false

/-- The bays moved to IDENTIFYING at STOP_SERVICE (R24, R161 step 3). -/
def State.stopBays (s : State) : State :=
  let t := allBays.foldl (fun u b => if (u.bay b).state.stopsToIdentifying then u.enterState b .identifying else u) s
  t.modBays fun _ r => { r with identDeadline := none }

/-- STOP_SERVICE carried out (R161 steps 1 to 5). -/
def State.stopped (s : State) : State :=
  (((s.cancelAll.setService .loading).stopBays).clearGrants.evalAllSetpoints).requestStop

/-- STOP_SERVICE executed (R161). -/
def stopServiceRequest (s : State) (f : DepotFrame) : State :=
  if !s.inService || allBays.any (fun b => (s.bay b).state == .releasing) then s.answer f .wrongState []
  else s.stopped.answer f .ok []

/-- STOP_SERVICE (R161). -/
def execStopService (s : State) : Host.Outcome State Fault Refusal :=
  .next (s.runRequest 0x0D (· == 0) stopServiceRequest)

/-! ## Releases -/

/-- Whether a tag is held by a waiting entry (R77, R78). -/
def State.tagWaiting (s : State) (tag : Nat) : Bool := s.rot.waiting.any fun e => e.request.tag == tag

/-- Whether a tag is held by a release record (R77, R78). -/
def State.tagReleasing (s : State) (tag : Nat) : Bool :=
  allBays.any fun b => (s.release b).any fun r => r.request.any fun q => q.tag == tag

/-- RELEASE_REQUEST executed (R77). -/
def releaseRequest (s : State) (f : DepotFrame) : State :=
  let limit := field f.payload 1 1
  if !s.inService then s.answer f .wrongState []
  else
    match finOf 8 (field f.payload 0 1) with
    | none => s.answer f .badValue []
    | some t =>
      let q : Request := ⟨f.tag, t, limit⟩
      if s.tagWaiting f.tag || s.tagReleasing f.tag then s.answer f .duplicate []
      else
        match s.readyHead t with
        | some b =>
          (s.startRelease b (.answered q)).answer f .serving (bayByte (some b) ++ packIdBytes (s.bay b).packId)
        | none =>
          if limit = 0 then s.answer f .noneReady []
          else if 8 ≤ s.rot.waiting.length then s.answer f .listFull []
          else ((s.setWaiting (s.rot.waiting ++ [⟨q, s.now⟩])).askRound).answer f .queued []

/-- RELEASE_REQUEST (R77). -/
def execReleaseRequest (s : State) : Host.Outcome State Fault Refusal :=
  .next (s.runRequest 0x0E (· == 2) releaseRequest)

/-- CANCEL_RELEASE executed (R78). -/
def cancelRelease (s : State) (f : DepotFrame) : State :=
  let tag := field f.payload 0 2
  if s.tagWaiting tag then
    (((s.removeWaiting tag).releaseNotice (some tag) .cancelled none).askRound).answer f .ok []
  else if s.tagReleasing tag then s.answer f .wrongState []
  else s.answer f .unknownTag []

/-- CANCEL_RELEASE (R78). -/
def execCancelRelease (s : State) : Host.Outcome State Fault Refusal :=
  .next (s.runRequest 0x0F (· == 2) cancelRelease)

/-- Whether RELEASE_BAY may start a release of a bay in a state (R79). -/
def BayState.releasable : BayState → Bool
  | .ready | .quarantine | .fault => true
  | _ => false

/-- RELEASE_BAY executed (R79). -/
def releaseBay (s : State) (f : DepotFrame) : State :=
  match bayOf (field f.payload 0 1) with
  | none => s.answer f .badValue []
  | some b =>
    if !s.inService then s.answer f .wrongState []
    else if (s.bay b).state.releasable then
      (s.startRelease b .byBay).answer f .ok (packIdBytes (s.bay b).packId)
    else s.answer f .wrongState []

/-- RELEASE_BAY (R79). -/
def execReleaseBay (s : State) : Host.Outcome State Fault Refusal :=
  .next (s.runRequest 0x10 (· == 1) releaseBay)

/-! ## BAY_RESET -/

/-- The BAY_RESET values of R25, but for the fields that the state entry sets: the state, the deadlines, the setpoint and
the NO_DATA flag, whose condition ends as the bay leaves its state (R164). -/
def BayRecord.resetFields (r : BayRecord) : BayRecord :=
  { r with
    reason := none
    packId := none
    session := none
    latest := none
    demand := 0
    applied := 0
    granted := 0
    urgency := none
    readyTime := none }

/-- The state that BAY_RESET moves a bay to (R26). -/
def BayRecord.resetState (r : BayRecord) : BayState :=
  if r.latch = some .closed ∧ r.presence = some .present then .identifying else .empty

/-- BAY_RESET carried out (R26, R164). -/
def State.resetBay (s : State) (b : Bay) : State :=
  (((s.clearDecoder b).clearInactive b).modBay b BayRecord.resetFields).enterState b (s.bay b).resetState

/-- BAY_RESET executed (R26, R164). -/
def bayResetRequest (s : State) (f : DepotFrame) : State :=
  match bayOf (field f.payload 0 1) with
  | none => s.answer f .badValue []
  | some b =>
    if (s.bay b).state = .releasing ∨ (s.bay b).state = .disabled then s.answer f .wrongState []
    else (s.resetBay b).answer f .ok (be 1 ((s.resetBay b).bay b).state.code)

/-- BAY_RESET (R26). -/
def execBayReset (s : State) : Host.Outcome State Fault Refusal :=
  .next (s.runRequest 0x11 (· == 1) bayResetRequest)

/-! ## Conditions and hold -/

/-- ACK_CONDITIONS executed (R170). -/
def ackConditions (s : State) (f : DepotFrame) : State :=
  let scope := field f.payload 0 1
  let set := field f.payload 1 2
  if scope = 0 then
    if 1024 ≤ set then s.answer f .badValue []
    else (s.ackDepot set).answer f .ok (be 2 (bitsOf (s.ackDepot set).cmn.latchedDepot))
  else
    match bayOf scope with
    | none => s.answer f .badValue []
    | some b =>
      if 8192 ≤ set then s.answer f .badValue []
      else (s.ackBay b set).answer f .ok (be 2 (bitsOf ((s.ackBay b set).cmn.latchedBay b)))

/-- ACK_CONDITIONS (R170). -/
def execAckConditions (s : State) : Host.Outcome State Fault Refusal :=
  .next (s.runRequest 0x12 (· == 3) ackConditions)

/-- The end of hold (R174 steps 1 to 4). -/
def State.leaveHold (s : State) : State :=
  let s1 := { s with cmn := { s.cmn.clearOrigin with hold := false } }
  let s2 := (s1.recomputeBudget.evalAllSetpoints).askRound
  s2.notice 0x92 (holdPayload 1 s2.cmn)

/-- RESUME executed (R174). -/
def resumeRequest (s : State) (f : DepotFrame) : State :=
  if !s.cmn.hold || s.cmn.anyLatched s.cmn.map.hold then s.answer f .wrongState []
  else s.leaveHold.answer f .ok []

/-- RESUME (R174). -/
def execResume (s : State) : Host.Outcome State Fault Refusal :=
  .next (s.runRequest 0x13 (· == 0) resumeRequest)

/-! ## Service frames -/

/-- SERVICE_FRAME executed (R148). -/
def serviceFrame (s : State) (f : DepotFrame) : State :=
  match bayOf (field f.payload 0 1) with
  | none => s.answer f .badValue []
  | some b =>
    if s.dlp.map.serviceDown = .refuse then s.answer f .refusedByMap []
    else if (s.bay b).state = .disabled then s.answer f .wrongState []
    else
      let asked := s.requestService b (f.payload.drop 1)
      if asked.2 then asked.1.answer f .ok [] else s.answer f .listFull []

/-- SERVICE_FRAME (R148). -/
def execServiceFrame (s : State) : Host.Outcome State Fault Refusal :=
  .next (s.runRequest 0x15 (fun n => decide (1 ≤ n ∧ n ≤ 15)) serviceFrame)

end Sys2Proof.Machine
end

