-- ==== Sys2Proof/Machine/Writes.lean ====
section
/-! DEFINITION. The table writes (R2, R28 to R31, R48, R90, R96, R97, R144, R171), each with its tests in order. -/

namespace Sys2Proof.Machine

/-! ## Profiles -/

/-- The head that a WRITE_PROFILE_HEAD carries (R152). -/
def headOfPayload (p : List Byte) : ProfileHead where
  stepCount := field p 1 1
  startLimit := signedField p 2 1
  resumeLimit := signedField p 3 1
  abortLimit := signedField p 4 1
  coldLimit := signedField p 5 1
  d1 := ⟨signedField p 6 1, field p 10 1⟩
  d2 := ⟨signedField p 7 1, field p 11 1⟩
  d3 := ⟨signedField p 8 1, field p 12 1⟩
  d4 := ⟨signedField p 9 1, field p 13 1⟩
  minCurrent := field p 14 2
  packOv := field p 16 2
  cellOv := field p 18 2
  topUp := field p 20 2

/-- Whether a temperature is outside the range held (R27). -/
def tempOut (t : Int) : Bool := decide (t < -40 ∨ 125 < t)

/-- Whether a step could not end above a top-up voltage: it is a REST step, or its voltage target is at or below it
(R28, R30). -/
def topUpConflict (step : ProfileStep) (topUp : Nat) : Bool :=
  topUp != 0 && (step.kind == .rest || decide (step.voltageTarget ≤ topUp))

/-- The step slot of a number, 1 to 6. -/
def Profile.slot (p : Profile) (k : Nat) : Option ProfileStep := (p.steps.list[k - 1]?).join

/-- The eight temperatures of a head: the four limits and the four of the derating curve (R27). -/
def ProfileHead.temperatures (h : ProfileHead) : List Int :=
  [h.startLimit, h.resumeLimit, h.abortLimit, h.coldLimit, h.d1.temp, h.d2.temp, h.d3.temp, h.d4.temp]

/-- The tests of a WRITE_PROFILE_HEAD from the step count on (R28). -/
def headTests (old : Profile) (h : ProfileHead) : List (Bool × Result) :=
  [(decide (h.stepCount < 1 ∨ 6 < h.stepCount), .badValue),
   (h.temperatures.any tempOut ||
      decide (h.startLimit ≤ h.resumeLimit) || decide (h.abortLimit < h.startLimit) ||
      decide (h.resumeLimit ≤ h.coldLimit), .badValue),
   (!decide (h.d1.temp < h.d2.temp ∧ h.d2.temp < h.d3.temp ∧ h.d3.temp < h.d4.temp) ||
      decide (100 < h.d1.percent) || decide (100 < h.d2.percent) || decide (100 < h.d3.percent) ||
      decide (100 < h.d4.percent), .badValue),
   (decide (2000 < h.minCurrent), .badValue),
   (h.packOv == 0 || h.cellOv == 0, .badValue),
   (h.topUp != 0 && decide (h.packOv ≤ h.topUp), .badValue),
   ((old.steps.list.take h.stepCount).any (fun k => k.any fun step => decide (h.packOv < step.voltageTarget)), .badValue),
   ((old.slot h.stepCount).any (fun step => topUpConflict step h.topUp), .badValue)]

/-- A profile with a new head: the slots above its step count are emptied (R29). -/
def Profile.withHead (p : Profile) (h : ProfileHead) : Profile where
  head := some h
  steps := Table.ofFn fun k => if k.val < h.stepCount then p.steps.get k else none

/-- A profile replaced, with the re-evaluation of quarantined bays when it has become complete (R29, R31). -/
def State.setProfile (s : State) (i : Fin 8) (p : Profile) : State :=
  let t := { s with profiles := s.profiles.set i p }
  if !(s.profiles.get i).complete && p.complete then t.reevaluate else t

/-- WRITE_PROFILE_HEAD executed (R28, R29). -/
def writeProfileHead (s : State) (f : DepotFrame) : State :=
  match finOf 8 (field f.payload 0 1) with
  | none => s.answer f .badValue []
  | some i =>
    let old := s.profiles.get i
    let h := headOfPayload f.payload
    let result := if s.profileInUse i then .inUse else firstTest (headTests old h)
    if result = .ok then (s.setProfile i (old.withHead h)).answer f .ok (flagByte (old.withHead h).complete)
    else s.answer f result []

/-- WRITE_PROFILE_HEAD (R28). -/
def execWriteProfileHead (s : State) : Host.Outcome State Fault Refusal :=
  .next (s.runRequest 0x04 (· == 22) writeProfileHead)

/-- The step that a WRITE_PROFILE_STEP carries, with the fields that its kind does not use held as 0 (R27, R30, R152). -/
def stepOfPayload (kind : StepKind) (action : TimeoutAction) (p : List Byte) : ProfileStep where
  kind := kind
  currentLimit := if kind = .rest then 0 else field p 3 2
  voltageTarget := field p 5 2
  endVoltage := if kind = .cc then field p 7 2 else 0
  taper := if kind = .cv then field p 9 2 else 0
  quota := if kind = .rest then 0 else field p 11 2
  maxTime := field p 13 2
  onTimeout := action

/-- The tests of a WRITE_PROFILE_STEP from the current limit on (R30). `quota` is the quota as written, which a REST step
does not keep. -/
def stepTests (h : ProfileHead) (number quota : Nat) (p : ProfileStep) : List (Bool × Result) :=
  [(p.kind != .rest && decide (p.currentLimit < 1 ∨ 2000 < p.currentLimit), .badValue),
   (decide (p.voltageTarget = 0 ∨ h.packOv < p.voltageTarget), .badValue),
   (p.kind == .cc && decide (p.endVoltage = 0 ∨ p.voltageTarget < p.endVoltage), .badValue),
   (p.kind == .cv && decide (p.taper = 0 ∨ p.currentLimit ≤ p.taper), .badValue),
   (decide (1440 < p.maxTime), .badValue),
   (p.kind == .rest && (p.maxTime == 0 || quota != 0), .badValue),
   (p.kind == .equalize && p.quota == 0 && p.maxTime == 0, .badValue),
   (number == h.stepCount && topUpConflict p h.topUp, .badValue)]

/-- A profile with a step slot replaced (R31). -/
def Profile.withStep (p : Profile) (k : Fin 6) (step : ProfileStep) : Profile :=
  { p with steps := p.steps.set k (some step) }

/-- The answer code of a WRITE_PROFILE_STEP after its number tests (R30), and the step that it would store. -/
def State.judgeStep (s : State) (i : Fin 8) (number : Nat) (payload : List Byte) : Result × Option ProfileStep :=
  if s.profileInUse i then (.inUse, none)
  else
    match (s.profiles.get i).head with
    | none => (.wrongState, none)
    | some h =>
      if h.stepCount < number then (.badValue, none)
      else
        match stepKindOf (field payload 2 1), timeoutActionOf (field payload 15 1) with
        | some kind, some action =>
          let step := stepOfPayload kind action payload
          (firstTest (stepTests h number (field payload 11 2) step), some step)
        | _, _ => (.badValue, none)

/-- WRITE_PROFILE_STEP executed (R30, R31). -/
def writeProfileStep (s : State) (f : DepotFrame) : State :=
  let number := field f.payload 1 1
  match finOf 8 (field f.payload 0 1), finOf 6 (number - 1), decide (1 ≤ number) with
  | some i, some k, true =>
    match s.judgeStep i number f.payload with
    | (.ok, some step) =>
      let p := (s.profiles.get i).withStep k step
      (s.setProfile i p).answer f .ok (flagByte p.complete)
    | (result, _) => s.answer f result []
  | _, _, _ => s.answer f .badValue []

/-- WRITE_PROFILE_STEP (R30). -/
def execWriteProfileStep (s : State) : Host.Outcome State Fault Refusal :=
  .next (s.runRequest 0x05 (· == 16) writeProfileStep)

/-! ## The registry -/

/-- The six fields of a registry entry as an answer or a table item carries them; an empty entry is all zeros (R137). -/
def entryBytes (e : Option RegEntry) : List Byte :=
  match e with
  | none => be 11 0
  | some e =>
    be 4 e.packId ++ be 1 e.packType.val ++ be 1 e.profile.val ++ be 1 e.status.code ++ be 2 e.cycles ++ be 2 e.lastCharge

/-- Whether a filled entry at another index holds a pack ID (R96). -/
def State.idElsewhere (s : State) (i : Fin 128) (id : Nat) : Bool :=
  (List.finRange 128).any fun j => j != i && (s.registry.get j).any fun e => e.packId == id

/-- The entry stored by an accepted write with a nonzero pack ID: its counts follow the counts action, SET or KEEP
(R97). -/
def storedEntry (old : Option RegEntry) (e : RegEntry) (set : Bool) : RegEntry :=
  if set then e
  else
    match old with
    | some o =>
      if o.packId = e.packId then { e with cycles := o.cycles, lastCharge := o.lastCharge }
      else { e with cycles := 0, lastCharge := 0 }
    | none => { e with cycles := 0, lastCharge := 0 }

/-- The entry that a WRITE_REGISTRY carries, when its pack type, profile and status are in range (R96, R152). -/
def entryOfPayload (p : List Byte) : Option RegEntry :=
  match finOf 8 (field p 5 1), finOf 8 (field p 6 1), statusOf (field p 7 1) with
  | some t, some profile, some status => some ⟨field p 1 4, t, profile, status, field p 9 2, field p 11 2⟩
  | _, _, _ => none

/-- What a WRITE_REGISTRY that passes the use test would store, or the answer that refuses it (R96, R97). The counts
fields are two bytes wide, so the test against 65,535 cannot hold. -/
def State.judgeEntry (s : State) (i : Fin 128) (p : List Byte) : Result × Option RegEntry :=
  if field p 1 4 = 0 then (.ok, none)
  else
    match entryOfPayload p with
    | none => (.badValue, none)
    | some e =>
      if 1 < field p 8 1 then (.badValue, none)
      else if s.idElsewhere i e.packId then (.duplicate, none)
      else (.ok, some (storedEntry (s.registry.get i) e (field p 8 1 == 1)))

/-- A registry entry written, with the re-evaluation of quarantined bays (R97, R99). -/
def State.setEntry (s : State) (i : Fin 128) (e : Option RegEntry) : State :=
  { s with registry := s.registry.set i e }.reevaluate

/-- WRITE_REGISTRY executed (R96, R97, R99). -/
def writeRegistry (s : State) (f : DepotFrame) : State :=
  match finOf 128 (field f.payload 0 1) with
  | none => s.answer f .badValue []
  | some i =>
    if (s.holderOf i).isSome then s.answer f .inUse []
    else
      match s.judgeEntry i f.payload with
      | (.ok, e) => (s.setEntry i e).answer f .ok (be 1 i.val ++ entryBytes e)
      | (result, _) => s.answer f result []

/-- WRITE_REGISTRY (R96). -/
def execWriteRegistry (s : State) : Host.Outcome State Fault Refusal :=
  .next (s.runRequest 0x06 (· == 13) writeRegistry)

/-! ## The bay configuration -/

/-- The four fields of a configuration entry (R2, R152). -/
def configBytes (c : BayConfig) : List Byte :=
  flagByte c.enabled ++ be 2 c.maxCurrent ++ be 2 c.maxVoltage ++ be 1 c.efficiency

/-- Whether a busy bay may not be disabled: its state is none of EMPTY, IDENTIFYING, QUARANTINE, FAULT (R2). -/
def BayState.busy : BayState → Bool
  | .empty | .identifying | .quarantine | .fault => false
  | _ => true

/-- The tests of R2, in order. -/
def State.configTests (s : State) (b : Bay) (c : BayConfig) : List (Bool × Result) :=
  [(decide (2000 < c.maxCurrent ∨ 65535 < c.maxVoltage ∨ c.efficiency < 50 ∨ 100 < c.efficiency), .badValue),
   (c.enabled && (c.maxCurrent == 0 || c.maxVoltage == 0), .badValue),
   (s.inService && (s.config.get b).enabled && !c.enabled && (s.bay b).state.busy, .inUse)]

/-- The refresh due time of a bay replaced (R129). -/
def State.setRefresh (s : State) (b : Bay) (t : Option Time) : State :=
  { s with blc := { s.blc with refresh := s.blc.refresh.set b t, refreshAsked := s.blc.refreshAsked.set b false } }

/-- A configuration entry stored, with the bay enabled, disabled or bounded anew (R2, R3, R110, R114, R129). -/
def State.configure (s : State) (b : Bay) (c : BayConfig) : State :=
  let old := s.config.get b
  let t := { s with config := s.config.set b c }
  match old.enabled, c.enabled with
  | false, true => (t.setRefresh b (some s.now)).enterState b .empty
  | true, false => ((t.setRefresh b none).clearDecoder b).enterState b .disabled
  | true, true => if old.maxCurrent ≠ c.maxCurrent ∨ old.maxVoltage ≠ c.maxVoltage then t.evalSetpoint b else t
  | false, false => t

/-- WRITE_BAY_CONFIG executed (R2, R3, R159). -/
def writeBayConfig (s : State) (f : DepotFrame) : State :=
  match bayOf (field f.payload 0 1), decide (field f.payload 1 1 ≤ 1) with
  | some b, true =>
    let c : BayConfig := ⟨field f.payload 1 1 == 1, field f.payload 2 2, field f.payload 4 2, field f.payload 6 1⟩
    let result := firstTest (s.configTests b c)
    if result = .ok then
      (s.configure b c).answer f .ok (configBytes c ++ be 1 ((s.configure b c).bay b).state.code)
    else s.answer f result []
  | _, _ => s.answer f .badValue []

/-- WRITE_BAY_CONFIG (R2). -/
def execWriteBayConfig (s : State) : Host.Outcome State Fault Refusal :=
  .next (s.runRequest 0x07 (· == 7) writeBayConfig)

/-! ## Operating parameters -/

/-- WRITE_SHIFT_CALL executed (R90). -/
def writeShiftCall (s : State) (f : DepotFrame) : State :=
  let counts : Table 8 Nat := Table.ofFn fun t => min 16 (field f.payload t.val 1)
  (({ s with rot := { s.rot with shiftCall := counts } }).askRound).answer f .ok (counts.list.flatMap (be 1))

/-- WRITE_SHIFT_CALL (R90). -/
def execWriteShiftCall (s : State) : Host.Outcome State Fault Refusal :=
  .next (s.runRequest 0x08 (· == 8) writeShiftCall)

/-- A value clamped into a range (R48). -/
def clampNat (low high v : Nat) : Nat := max low (min high v)

/-- The budget parameters of a SET_BUDGET, clamped (R48). -/
def budgetOfPayload (p : List Byte) : Budget where
  feeder := clampNat 0 120000 (field p 0 3)
  blind := clampNat 0 120000 (field p 3 3)
  margin := clampNat 0 10000 (field p 6 2)
  ramp := clampNat 50 5000 (field p 8 2)
  reclaim := clampNat 0 500 (field p 10 2)

/-- The five budget parameters as stored (R152). -/
def budgetBytes (g : Budget) : List Byte :=
  be 3 g.feeder ++ be 3 g.blind ++ be 2 g.margin ++ be 2 g.ramp ++ be 2 g.reclaim

/-- The budget parameters replaced, the effective budget recomputed, and a round where one may run (R48, R49). -/
def State.setBudgetTo (s : State) (g : Budget) : State :=
  ((s.modFal fun x => { x with budget := g }).recomputeBudget).askRound

/-- SET_BUDGET executed (R48, R49). -/
def setBudget (s : State) (f : DepotFrame) : State :=
  let g := budgetOfPayload f.payload
  (s.setBudgetTo g).answer f .ok (budgetBytes g)

/-- SET_BUDGET (R48). -/
def execSetBudget (s : State) : Host.Outcome State Fault Refusal :=
  .next (s.runRequest 0x0B (· == 12) setBudget)

/-! ## Maps -/

/-- The action that a code and an N give an upward entry; `onChange` says whether ON_CHANGE is allowed (R144, R152). -/
def upAction (onChange : Bool) (code n : Nat) : Option RelayAction :=
  match code with
  | 0 => some .drop
  | 1 => some .all
  | 2 => if onChange then some .onChange else none
  | 3 => if 2 ≤ n ∧ n ≤ 255 then some (.everyN n) else none
  | _ => none

/-- The action that a code gives the SERVICE_DOWN entry (R144). -/
def downAction : Nat → Option RelayAction
  | 4 => some .pass
  | 5 => some .refuse
  | _ => none

/-- The relay map that a WRITE_RELAY_MAP carries, if every entry is allowed (R144). -/
def mapOfPayload (p : List Byte) : Option RelayMap :=
  match upAction true (field p 0 1) (field p 1 1), upAction true (field p 2 1) (field p 3 1),
    upAction true (field p 4 1) (field p 5 1), upAction true (field p 6 1) (field p 7 1),
    upAction false (field p 8 1) (field p 9 1), upAction false (field p 10 1) (field p 11 1),
    downAction (field p 12 1) with
  | some a, some b, some c, some d, some e, some g, some h => some ⟨a, b, c, d, e, g, h⟩
  | _, _, _, _, _, _, _ => none

/-- The decimation counters after a write: those of a changed entry are 0 (R144). -/
def Counters.afterWrite (c : Counters) (old new : RelayMap) : Counters where
  telemetry := if old.telemetry = new.telemetry then c.telemetry else Table.replicate 16 0
  stage := if old.stage = new.stage then c.stage else Table.replicate 16 0
  latch := if old.latch = new.latch then c.latch else Table.replicate 16 0
  meter := if old.meter = new.meter then c.meter else 0
  serviceUp := if old.serviceUp = new.serviceUp then c.serviceUp else Table.replicate 16 0
  bayState := if old.bayState = new.bayState then c.bayState else Table.replicate 16 0

/-- The on-change memory after a write: that of a changed entry is cleared (R144). -/
def Memos.afterWrite (m : Memos) (old new : RelayMap) : Memos where
  telemetry := if old.telemetry = new.telemetry then m.telemetry else Table.replicate 16 none
  stage := if old.stage = new.stage then m.stage else Table.replicate 16 none
  latch := if old.latch = new.latch then m.latch else Table.replicate 16 none
  meter := if old.meter = new.meter then m.meter else none

/-- The relay map replaced (R144). -/
def State.setMap (s : State) (m : RelayMap) : State :=
  { s with dlp := { s.dlp with
      map := m
      counters := s.dlp.counters.afterWrite s.dlp.map m
      memos := s.dlp.memos.afterWrite s.dlp.map m } }

/-- WRITE_RELAY_MAP executed (R144). -/
def writeRelayMap (s : State) (f : DepotFrame) : State :=
  match mapOfPayload f.payload with
  | none => s.answer f .badValue []
  | some m => (s.setMap m).answer f .ok []

/-- WRITE_RELAY_MAP (R144). -/
def execWriteRelayMap (s : State) : Host.Outcome State Fault Refusal :=
  .next (s.runRequest 0x09 (· == 14) writeRelayMap)

/-- A selection of kinds by its three bytes: bit k stands for kind k (R171). -/
def selectionOf (v : Nat) : Table 23 Bool := Table.ofFn fun k => v.testBit k.val

/-- WRITE_ALARM_MAP executed (R171). -/
def writeAlarmMap (s : State) (f : DepotFrame) : State :=
  let trip := field f.payload 0 3
  let hold := field f.payload 3 3
  if 2 ^ 23 ≤ trip ∨ 2 ^ 23 ≤ hold then s.answer f .badValue []
  else
    let m : AlarmMap := ⟨selectionOf trip, selectionOf hold⟩
    ({ s with cmn := { s.cmn with map := m } }.recomputeTrip).answer f .ok
      (be 3 (bitsOf m.trip.list) ++ be 3 (bitsOf m.hold.list))

/-- WRITE_ALARM_MAP (R171). -/
def execWriteAlarmMap (s : State) : Host.Outcome State Fault Refusal :=
  .next (s.runRequest 0x0A (· == 6) writeAlarmMap)

end Sys2Proof.Machine
end

