-- ==== Sys2Proof/Machine/Reads.lean ====
section
/-! DEFINITION. The three reads (R156 to R158), coded by R137 and R152. -/

namespace Sys2Proof.Machine

/-! ## READ_STATUS -/

/-- The set of bays that satisfy `p`: bit n - 1 for bay n (R137). -/
def baySet (p : Bay → Bool) : List Byte := be 2 (bitsOf (allBays.map p))

/-- The number of transmit queue entries whose kind satisfies `p`. -/
def State.txCount (s : State) (p : TxWhat → Bool) : Nat := s.blc.tx.countP fun e => p e.what

def TxWhat.isStop : TxWhat → Bool
  | .stop => true
  | _ => false

def TxWhat.isDrive : TxWhat → Bool
  | .drive _ => true
  | _ => false

def TxWhat.isLatch : TxWhat → Bool
  | .latchCmd _ _ => true
  | _ => false

def TxWhat.isService : TxWhat → Bool
  | .service _ _ => true
  | _ => false

/-- The bays with a release record, in ascending number (R158). -/
def State.releasing (s : State) : List Bay := allBays.filter fun b => (s.release b).isSome

/-- The fields of a READ_STATUS answer, in order (R137, R156). -/
def State.statusFields (s : State) : List Field :=
  [.fixed (be 1 s.mgu.service.code),
   .fixed (flagByte s.cmn.hold),
   .fixed (be 2 (bitsOf s.cmn.originDepot.list)),
   .fixed (baySet fun b => (s.cmn.originBays.get b).list.any id),
   .fixed (flagByte s.cmn.trip),
   .fixed (be 2 (bitsOf s.cmn.latchedDepot)),
   .fixed (be 2 (bitsOf (s.cmn.depot.list.map (·.active)))),
   .fixed (baySet fun b => (s.cmn.latchedBay b).any id),
   .fixed (be 3 s.fal.effective),
   .fixed (be 3 s.fal.headroom),
   .opt 3 (s.rdc.lastMeter.map (·.watts)),
   .optTime (s.rdc.lastMeter.map (·.arrival)),
   .fixed (be 1 s.blc.line.code),
   .fixed (be 1 (s.txCount TxWhat.isStop)),
   .fixed (be 1 (s.txCount TxWhat.isDrive)),
   .fixed (be 1 (s.txCount TxWhat.isLatch)),
   .fixed (be 1 (s.txCount TxWhat.isService)),
   .fixed (be 1 s.rot.ready.length),
   .fixed (be 1 s.rot.waiting.length),
   .fixed (be 1 s.releasing.length),
   .fixed (be 2 s.dlp.sendCount),
   .fixed (timeBytes s.now)]

/-- READ_STATUS executed (R156). -/
def readStatus (s : State) (f : DepotFrame) : State := s.answer f .ok (encodeFields s.statusFields)

/-- READ_STATUS (R156). -/
def execReadStatus (s : State) : Host.Outcome State Fault Refusal :=
  .next (s.runRequest 0x01 (· == 0) readStatus)

/-! ## READ_BAY -/

/-- A yes-or-no field that may be absent. -/
def Field.optFlag (v : Option Bool) : Field := .opt 1 (v.map Bool.toNat)

/-- The fields of part 0 (R157). -/
def BayRecord.partZero (r : BayRecord) : List Field :=
  let x := r.session
  [.fixed (be 1 r.state.code),
   .opt 1 (r.reason.map QuarantineReason.code),
   .opt 1 (r.origin.map Origin.code),
   .fixed (packIdBytes r.packId),
   .opt 1 (x.map (·.registryIndex.val)),
   .opt 1 (x.map (·.packType.val)),
   .opt 1 (x.map (·.profile.val)),
   .opt 1 (x.map (·.stepIndex)),
   .opt 4 (x.map (·.stepTime)),
   .opt 4 (x.bind (·.stepCharge)),
   .opt 4 (x.map (·.sessionCharge)),
   .opt 2 (x.map (·.remainder)),
   .opt 1 (x.map (·.taperRun)),
   .opt 1 (x.map (·.endRun)),
   .optFlag (x.map (·.checkDone)),
   .optFlag (x.map (·.counted)),
   .opt 1 (r.check.map (·.pass)),
   .opt 1 (r.check.map (·.low)),
   .optTime r.checkDeadline,
   .optTime r.identDeadline]

/-- The fields of part 1 (R157). -/
def BayRecord.partOne (r : BayRecord) : List Field :=
  [.optTime (r.latest.map (·.arrival)),
   .opt 1 (r.stage.map (·.mode.code)),
   .opt 2 (r.stage.map (·.voltage)),
   .opt 2 (r.stage.map (·.current)),
   .opt 1 (r.stage.map (·.code)),
   .opt 1 (r.latch.map Latch.code),
   .opt 1 (r.presence.map Presence.code),
   .fixed (flagByte r.noData),
   .fixed (flagByte r.frozen),
   .optTime r.escalation,
   .fixed (be 3 r.demand),
   .fixed (be 3 r.applied),
   .fixed (be 2 r.granted),
   .opt 1 r.urgency,
   .fixed (be 1 r.setpoint.mode.code),
   .fixed (be 2 r.setpoint.current),
   .fixed (be 2 r.setpoint.limit),
   .opt 4 r.readyTime,
   .fixed (timeBytes r.entryTime)]

/-- The bytes of part 2 (R157). -/
def State.partTwo (s : State) (b : Bay) : List Byte :=
  configBytes (s.config.get b) ++ be 2 (bitsOf (s.cmn.latchedBay b)) ++
    be 2 (bitsOf ((s.cmn.bays.get b).list.map (·.active))) ++ be 2 (bitsOf (s.cmn.originBays.get b).list)

/-- The bytes of a part of a bay (R157), or none for a part number outside 0 to 2. -/
def State.partBytes (s : State) (b : Bay) (part : Nat) : Option (List Byte) :=
  match part with
  | 0 => some (encodeFields (s.bay b).partZero)
  | 1 => some (encodeFields (s.bay b).partOne)
  | 2 => some (s.partTwo b)
  | _ => none

/-- READ_BAY executed (R157). -/
def readBay (s : State) (f : DepotFrame) : State :=
  let part := field f.payload 1 1
  match bayOf (field f.payload 0 1) with
  | none => s.answer f .badValue []
  | some b =>
    match s.partBytes b part with
    | none => s.answer f .badValue []
    | some bytes => s.answer f .ok (bayByte (some b) ++ be 1 part ++ bytes)

/-- READ_BAY (R157). -/
def execReadBay (s : State) : Host.Outcome State Fault Refusal :=
  .next (s.runRequest 0x02 (· == 2) readBay)

/-! ## READ_TABLE: the items (R158; log entry 20, DEDUCED) -/

/-- The fields of a head in the order of WRITE_PROFILE_HEAD (R152). -/
def headBytes (h : ProfileHead) : List Byte :=
  be 1 h.stepCount ++ beInt 1 h.startLimit ++ beInt 1 h.resumeLimit ++ beInt 1 h.abortLimit ++ beInt 1 h.coldLimit ++
    beInt 1 h.d1.temp ++ beInt 1 h.d2.temp ++ beInt 1 h.d3.temp ++ beInt 1 h.d4.temp ++
    be 1 h.d1.percent ++ be 1 h.d2.percent ++ be 1 h.d3.percent ++ be 1 h.d4.percent ++
    be 2 h.minCurrent ++ be 2 h.packOv ++ be 2 h.cellOv ++ be 2 h.topUp

/-- A PROFILE_HEAD item: the written flag, the head and the completeness; an unwritten head is all zeros (R137). -/
def Profile.headItem (p : Profile) : List Byte :=
  match p.head with
  | none => be 23 0
  | some h => flagByte true ++ headBytes h ++ flagByte p.complete

/-- The fields of a step slot in the order of WRITE_PROFILE_STEP (R152). -/
def stepBytes (p : ProfileStep) : List Byte :=
  be 1 p.kind.code ++ be 2 p.currentLimit ++ be 2 p.voltageTarget ++ be 2 p.endVoltage ++ be 2 p.taper ++
    be 2 p.quota ++ be 2 p.maxTime ++ be 1 p.onTimeout.code

/-- A PROFILE_STEP item: the written flag and the step; an unwritten slot is all zeros (R137). -/
def stepItem (p : Option ProfileStep) : List Byte :=
  match p with
  | none => be 15 0
  | some p => flagByte true ++ stepBytes p

/-- A REGISTRY item: the index, the entry, and the bay that holds it (R102, R158). -/
def State.registryItem (s : State) (i : Fin 128) : List Byte :=
  be 1 i.val ++ entryBytes (s.registry.get i) ++ bayByte (s.holderOf i)

/-- A RELAY_MAP item: the action and N, which only EVERY_N holds (R144). -/
def relayItem (a : RelayAction) : List Byte := encodeFields [.fixed (be 1 a.code), .opt 1 a.every]

/-- The seven entries of the relay map, in the order of R144. -/
def RelayMap.entries (m : RelayMap) : List RelayAction :=
  [m.telemetry, m.stage, m.latch, m.meter, m.serviceUp, m.bayState, m.serviceDown]

/-- A READY_LIST item: bay, pack type, status, ready time (R72). -/
def State.readyItem (s : State) (b : Bay) : List Byte :=
  let x := (s.bay b).session
  bayByte (some b) ++ be 1 (x.elim 0 (·.packType.val)) ++
    be 1 ((x.bind fun y => s.registry.get y.registryIndex).elim 0 (·.status.code)) ++
    be 4 ((s.bay b).readyTime.getD 0)

/-- A WAITING_LIST item: tag, pack type, queued time, wait limit (R75). -/
def waitItem (e : WaitEntry) : List Byte :=
  be 2 e.request.tag ++ be 1 e.request.packType.val ++ timeBytes e.queued ++ be 1 e.request.limit

/-- A RELEASE_TABLE item: the fields of R80. -/
def releaseItem (b : Bay) (r : ReleaseRecord) : List Byte :=
  encodeFields [.fixed (bayByte (some b)), .fixed (be 1 r.kind.code), .opt 2 (r.request.map (·.tag)),
    .opt 1 (r.request.map (·.packType.val)), .opt 1 (r.request.map (·.limit)), .fixed (be 1 r.origin.code),
    .fixed (be 1 r.phase.code), .optTime r.deadline]

/-- A signed field that may be absent. -/
def Field.optInt (width : Nat) (v : Option Int) : Field :=
  ⟨true, v.isSome, beInt width (v.getD 0)⟩

/-- A PACK_RECORD item: the fields of the latest pack record without the list, and its arrival time. R137 gives no width for the
total segment count of 1 to 7; one byte is the model's choice (log entry 37, DESIGN CHOICE). -/
def recordItem (a : Option Arrived) : List Byte :=
  let p := a.map (·.record)
  encodeFields [.opt 1 (p.map (·.total)), .opt 1 (p.map (·.alive)), .optFlag (p.map (·.faultFlag)),
    .fixed (packIdBytes (p.map (·.packId))), .opt 2 (p.map (·.voltage)), .optInt 2 (p.map (·.current)),
    .optInt 1 (p.map (·.highest)), .optInt 1 (p.map (·.lowest)), .opt 1 (p.map (·.soc)), .opt 1 (p.map (·.groups)),
    .optTime (a.map (·.arrival))]

/-- A CELL_GROUPS item: the cell-group count and the voltages of the latest pack record. -/
def cellsItem (a : Option Arrived) : List Byte :=
  let p := a.map (·.record)
  encodeFields [.opt 1 (p.map (·.groups)), ⟨true, p.isSome, cellBytes (p.elim [] (·.cells))⟩]

/-! ## READ_TABLE: the tables (R158) -/

/-- A table for READ_TABLE: its first item number, the last item number that may be named, the items as they stand, from
the first item number on, and the number of items that one answer holds. -/
structure Readable where
  first : Nat
  last : Nat
  items : List (List Byte)
  perAnswer : Nat
deriving DecidableEq, Repr

/-- The table of a table code (R137, R158). -/
def State.readable (s : State) (code : Nat) : Option Readable :=
  match code with
  | 0 => some ⟨0, 7, s.profiles.list.map Profile.headItem, 2⟩
  | 1 => some ⟨0, 47, s.profiles.list.flatMap fun p => p.steps.list.map stepItem, 3⟩
  | 2 => some ⟨0, 127, (List.finRange 128).map s.registryItem, 4⟩
  | 3 => some ⟨1, 16, s.config.list.map configBytes, 7⟩
  | 4 => some ⟨0, 7, s.rot.shiftCall.list.map (be 1), 8⟩
  | 5 => some ⟨0, 6, s.dlp.map.entries.map relayItem, 7⟩
  | 6 => some ⟨0, 22, List.zipWith (fun t h => flagByte t ++ flagByte h) s.cmn.map.trip.list s.cmn.map.hold.list, 23⟩
  | 7 => some ⟨0, 0, [budgetBytes s.fal.budget], 1⟩
  | 8 => some ⟨0, 15, s.rot.ready.map s.readyItem, 7⟩
  | 9 => some ⟨0, 7, s.rot.waiting.map waitItem, 5⟩
  | 10 => some ⟨0, 15, allBays.filterMap fun b => (s.release b).map (releaseItem b), 3⟩
  | 11 => some ⟨1, 16, s.bays.list.map fun r => recordItem r.latest, 1⟩
  | 12 => some ⟨1, 16, s.bays.list.map fun r => cellsItem r.latest, 1⟩
  | _ => none

/-- The items that an answer returns from `first` on (R158). -/
def Readable.take (t : Readable) (first count : Nat) : List (List Byte) :=
  (t.items.drop (first - t.first)).take (min count t.perAnswer)

/-- READ_TABLE executed (R158). -/
def readTable (s : State) (f : DepotFrame) : State :=
  let code := field f.payload 0 1
  let first := field f.payload 1 1
  match s.readable code with
  | none => s.answer f .badValue []
  | some t =>
    if first < t.first ∨ t.last < first then s.answer f .badValue []
    else
      let items := t.take first (field f.payload 2 1)
      s.answer f .ok (be 1 code ++ be 1 first ++ be 1 items.length ++ items.flatten)

/-- READ_TABLE (R158). -/
def execReadTable (s : State) : Host.Outcome State Fault Refusal :=
  .next (s.runRequest 0x03 (· == 3) readTable)

end Sys2Proof.Machine
end

