-- ==== Sys2Proof/Machine/Line.lean ====
section
/-! DEFINITION. The Bay Line Controller's events: sending (R123, R127, R128), refresh (R129), receiving (R130), and the line
state with its recovery (R131 to R133). -/

namespace Sys2Proof.Machine

/-- The Bay Line Controller's state changed. -/
def State.modBlc (s : State) (f : Blc → Blc) : State := { s with blc := f s.blc }

/-! ## The choice of the next frame -/

/-- The order of the kinds (R127): STOP, DRIVE, LATCH_CMD, SERVICE. -/
def TxWhat.rank : TxWhat → Nat
  | .stop => 0
  | .drive _ => 1
  | .latchCmd _ _ => 2
  | .service _ _ => 3

/-- The bay of an entry as a number, 0 for STOP (R124). -/
def TxWhat.bayNo : TxWhat → Nat
  | .stop => 0
  | .drive b => bayNumber b
  | .latchCmd b _ => bayNumber b
  | .service b _ => bayNumber b

/-- Whether an entry is chosen before another (R127): by kind, then queued time, then bay number. -/
def TxEntry.before (e f : TxEntry) : Bool :=
  decide (e.what.rank < f.what.rank) ||
    (e.what.rank == f.what.rank &&
      (decide (e.queued < f.queued) || (e.queued == f.queued && decide (e.what.bayNo < f.what.bayNo))))

/-- The entry that the arbiter takes among the waiting ones (R127); between entries of equal standing, the first in the
queue (log entry 22, DESIGN CHOICE). -/
def bestWaiting : List TxEntry → Option TxEntry
  | [] => none
  | e :: es =>
    match e.onLine, bestWaiting es with
    | true, best => best
    | false, none => some e
    | false, some best => if best.before e then some best else some e

/-- The setpoint as the payload of a drive frame (R122). -/
def setpointBytes (p : Setpoint) : List Byte := be 1 p.mode.code ++ be 2 p.current ++ be 2 p.limit

/-- The bytes of an entry's frame, fixed at its start (R121, R122, R127). -/
def State.frameOf (s : State) (w : TxWhat) : List Byte :=
  match w with
  | .stop => lineFrameBytes 0 30 []
  | .drive b => lineFrameBytes 1 (bayNumber b) (setpointBytes (s.bay b).setpoint)
  | .latchCmd b c => lineFrameBytes 2 (bayNumber b) (be 1 c.code)
  | .service b payload => lineFrameBytes 7 (bayNumber b) payload

/-- Whether the part can begin a frame on the Bay Line: the line is idle and an entry waits (R127). -/
def State.canStart (s : State) : Bool := s.blc.line == .idle && (bestWaiting s.blc.tx).isSome

/-- An entry's frame put on the line (R127), with the driver enabled (log entry 15, DESIGN CHOICE). -/
def State.startFrame (s : State) (e : TxEntry) : State :=
  s.modBlc fun c => { c with
    tx := modifyFirst (fun x => x == e) (fun x => { x with onLine := true }) c.tx
    line := .sending
    sending := some (s.frameOf e.what)
    driverEnable := true }

/-- BAY_LINE_TX_START (R127). -/
def execBayLineTxStart (s : State) : Host.Outcome State Fault Refusal :=
  .next <|
    if s.canStart then
      match bestWaiting s.blc.tx with
      | some e => s.startFrame e
      | none => s
    else s

/-! ## The end of a transmission -/

/-- The queue with its entry on the line replaced, or removed, by `f`. -/
def replaceOnLine (f : TxEntry → Option TxEntry) : List TxEntry → List TxEntry
  | [] => []
  | e :: es =>
    if e.onLine then
      match f e with
      | some x => x :: es
      | none => es
    else e :: replaceOnLine f es

/-- The entry on the line, while the part's own frame is on it (R131). -/
def State.ownEntry (s : State) : Option TxEntry :=
  if s.blc.line = .sending then s.blc.tx.find? (·.onLine) else none

/-- An entry as it stands after its frame is sent whole (R128): it leaves, or stays when it was renewed. -/
def TxEntry.sentWhole (now : Time) (e : TxEntry) : Option TxEntry :=
  if e.renewed then some { e with onLine := false, renewed := false, queued := now } else none

/-- The refresh due time of an enabled bay after its drive frame is sent whole (R129). -/
def State.refreshSent (s : State) (w : TxWhat) : State :=
  match w with
  | .drive b =>
    if (s.config.get b).enabled then
      s.modBlc fun c =>
        { c with refresh := c.refresh.set b (some (s.now + 1000)), refreshAsked := c.refreshAsked.set b false }
    else s
  | .stop => s
  | .latchCmd _ _ => s
  | .service _ _ => s

/-- A frame sent whole (R128, R129). The line state stays SENDING until the idle is found (R120; log entry 13, DEDUCED). -/
def State.sentWhole (s : State) (e : TxEntry) : State :=
  (s.modBlc fun c => { c with
    tx := replaceOnLine (TxEntry.sentWhole s.now) c.tx
    errorRun := 0
    sending := none
    driverEnable := false }).refreshSent e.what

/-- BAY_LINE_TX_COMPLETE (R128). -/
def execBayLineTxComplete (s : State) : Host.Outcome State Fault Refusal :=
  .next <| match s.ownEntry with
    | none => s
    | some e => s.sentWhole e

/-- An entry that waits again (R128). -/
def TxEntry.waitAgain (e : TxEntry) : TxEntry := { e with onLine := false, renewed := false }

/-- An entry after a lost arbitration (R123, R128): LATCH_CMD and SERVICE entries leave at 16 losses. -/
def TxEntry.lost (e : TxEntry) : Option TxEntry :=
  if e.limited then
    (if 16 ≤ e.losses + 1 then none else some { e.waitAgain with losses := e.losses + 1 })
  else some e.waitAgain

/-- A lost arbitration (R123, R128): the winner's frame is on the line. -/
def State.arbitrationLost (s : State) (e : TxEntry) : State :=
  let t := s.modBlc fun c => { c with
    tx := replaceOnLine TxEntry.lost c.tx
    line := .busy
    sending := none
    driverEnable := false }
  match e.lost, e.what with
  | none, .latchCmd b _ => t.latchDiscarded b
  | _, _ => t

/-- ARBITRATION_LOST (R123, R128). -/
def execArbitrationLost (s : State) : Host.Outcome State Fault Refusal :=
  .next <| match s.ownEntry with
    | none => s
    | some e => s.arbitrationLost e

/-! ## Recovery -/

/-- A recovery attempt begun (R131, R132): pulse 1 is sent. -/
def State.startRecovery (s : State) : State :=
  s.modBlc fun c => { c with
    tx := c.tx.map fun e => if e.onLine then e.waitAgain else e
    line := .recovery
    errorRun := 0
    recovery := some ⟨1, s.now⟩
    nextAttempt := none
    sending := none
    driverEnable := false }

/-- A transmit error (R128): the entry waits, the run increases, and at 8 a recovery begins. -/
def State.transmitError (s : State) : State :=
  let t := s.modBlc fun c => { c with
    tx := replaceOnLine (fun e => some e.waitAgain) c.tx
    errorRun := c.errorRun + 1
    sending := none
    driverEnable := false }
  if 8 ≤ t.blc.errorRun then t.startRecovery else t

/-- TRANSMIT_ERROR (R128). -/
def execTransmitError (s : State) : Host.Outcome State Fault Refusal :=
  .next <| match s.ownEntry with
    | none => s
    | some _ => s.transmitError

/-- Whether the line is watched for a dominant level (R131). -/
def LineState.watched : LineState → Bool
  | .idle | .busy | .sending => true
  | .recovery | .stuck => false

/-- LINE_DOMINANT_TIMEOUT (R131). -/
def execLineDominantTimeout (s : State) : Host.Outcome State Fault Refusal :=
  .next (if s.blc.line.watched then s.startRecovery else s)

/-- The deadlines and the escalation of a bay while LINE_STUCK is active: absent (R6, R13, R21). -/
def BayRecord.suspend (r : BayRecord) : BayRecord :=
  { r with identDeadline := none, checkDeadline := none, escalation := none }

/-- The suspension of all deadlines when LINE_STUCK becomes active (R6, R13, R21, R86, R133). -/
def State.suspendDeadlines (s : State) : State :=
  let t := s.modBays fun _ r => r.suspend
  { t with rot := { t.rot with
      releases := Table.ofFn fun b => (s.release b).map fun x => { x with deadline := none } } }

/-- A failed attempt (R132, R133): pulse 10 is sent, and the next attempt is due 30 s after it. -/
def State.attemptFailed (s : State) : State :=
  let t := if s.lineStuck then s else (s.raise (.depot .lineStuck) true).suspendDeadlines
  t.modBlc fun c => { c with line := .stuck, recovery := none, nextAttempt := some (s.now + 30000) }

/-- The deadlines and the escalation of a bay when LINE_STUCK ends: set in full (R6, R13, R21). -/
def BayRecord.resume (now : Time) (inService : Bool) (r : BayRecord) : BayRecord :=
  { r with
    identDeadline := if r.state = .identifying ∧ inService = true then some (now + 10000) else r.identDeadline
    check := if r.state = .checking then some ⟨0, 0⟩ else r.check
    checkDeadline := if r.state = .checking then some (now + 5000) else r.checkDeadline
    escalation := if r.noData && r.state.escalates then some now else r.escalation }

/-- The restart of all deadlines when LINE_STUCK ends (R6, R13, R21, R86, R133). -/
def State.resumeDeadlines (s : State) : State :=
  let t := s.modBays fun _ r => r.resume s.now s.inService
  { t with rot := { t.rot with
      releases := Table.ofFn fun b =>
        (s.release b).map fun x => { x with deadline := some (s.now + x.phase.time) } } }

/-- The end of LINE_STUCK (R133). -/
def State.endStuck (s : State) : State := (s.endCause (.depot .lineStuck)).resumeDeadlines

/-- A successful attempt (R132, R133). -/
def State.attemptSucceeded (s : State) : State :=
  (if s.lineStuck then s.endStuck else s).modBlc fun c =>
    { c with line := .busy, recovery := none, nextAttempt := none }

/-- The line read after the last pulse (R132). -/
def State.pulseRead (s : State) (r : Recovery) (dominant : Bool) : State :=
  if !dominant then s.attemptSucceeded
  else if r.pulses < 9 then s.modBlc fun c => { c with recovery := some ⟨r.pulses + 1, s.now⟩ }
  else s.attemptFailed

/-- LRS_PULSE_READING (R132): the line is read 20 ms after the pulse began. -/
def execLrsPulseReading (dominant : Bool) (s : State) : Host.Outcome State Fault Refusal :=
  .next <| match s.blc.line, s.blc.recovery with
    | .recovery, some r => if r.pulseAt + 20 ≤ s.now then s.pulseRead r dominant else s
    | _, _ => s

/-- Whether the next attempt of a stuck line is due (R132). -/
def State.attemptDue (s : State) : Bool :=
  s.blc.line == .stuck && s.blc.nextAttempt.any fun t => decide (t ≤ s.now)

/-- NEXT_RECOVERY_ATTEMPT (R132). -/
def execNextRecoveryAttempt (s : State) : Host.Outcome State Fault Refusal :=
  .next (if s.attemptDue then s.startRecovery else s)

/-- The LRS pin (R132; log entry 31, DEDUCED): driven for 1 ms from the start of each pulse, the tenth one included. -/
def State.lrs (s : State) : Bool :=
  s.blc.recovery.any (fun r => decide (s.now < r.pulseAt + 1)) ||
    s.blc.nextAttempt.any fun t => decide (s.now + 30000 < t + 1)

/-! ## Refresh -/

/-- Whether the refresh of an enabled bay is due and has not been asked for (R129). -/
def State.refreshIsDue (s : State) (b : Bay) : Bool :=
  (s.config.get b).enabled && !(s.blc.refreshAsked.get b) &&
    (s.blc.refresh.get b).any fun t => decide (t ≤ s.now)

/-- A refresh asked for (R125, R129). -/
def State.askRefresh (s : State) (b : Bay) : State :=
  (s.modBlc fun c => { c with refreshAsked := c.refreshAsked.set b true }).requestDrive b

/-- REFRESH_DUE (R129). -/
def execRefreshDue (b : Bay) (s : State) : Host.Outcome State Fault Refusal :=
  .next (if s.refreshIsDue b then s.askRefresh b else s)

/-! ## Receiving -/

/-- Whether a frame passes the first three checks of R130. -/
def frameSound (chars : List Byte) (framingFault : Bool) : Bool :=
  !framingFault && decide (4 ≤ chars.length) && decide (field chars 2 1 ≤ 16) &&
    chars.length == 4 + field chars 2 1 && crc8 (chars.take (chars.length - 1)) == (chars.getLast?).getD 0#8

/-- A sound frame's way into the receive queue (R130). -/
def State.takeFrame (s : State) (chars : List Byte) : State :=
  if field chars 1 1 ≠ 0 ∧ field chars 1 1 ≠ 30 then s
  else if 16 ≤ s.blc.rx.length then s.raise (.depot .lineRxOverrun) false
  else s.modBlc fun c =>
    { c with rx := c.rx ++ [⟨(chars.head?).getD 0#8, (chars.drop 3).take (chars.length - 4), s.now⟩] }

/-- The checks of R130 on a frame that another station sent. -/
def State.hearFrame (s : State) (chars : List Byte) (framingFault : Bool) : State :=
  if frameSound chars framingFault then s.takeFrame chars else s.raise (.depot .lineRxError) false

/-- The line state replaced. -/
def State.setLine (s : State) (l : LineState) : State := s.modBlc fun c => { c with line := l }

/-- The end of another station's frame, by line state (R120, R130, R131, R133; log entry 14, DEDUCED). -/
def State.frameEnd (s : State) (chars : List Byte) (framingFault : Bool) : State :=
  match s.blc.line with
  | .recovery => s
  | .idle | .busy => (s.hearFrame chars framingFault).setLine .idle
  | .sending => if s.ownEntry.isSome then s else (s.hearFrame chars framingFault).setLine .idle
  | .stuck =>
    let t := s.hearFrame chars framingFault
    if frameSound chars framingFault then
      t.endStuck.modBlc fun c => { c with line := .busy, nextAttempt := none }
    else t

/-- BAY_LINE_FRAME_END (R130). -/
def execBayLineFrameEnd (chars : List Byte) (framingFault : Bool) (s : State) : Host.Outcome State Fault Refusal :=
  .next (s.frameEnd chars framingFault)

/-- LINE_IDLE_FOUND (R120, R132). -/
def execLineIdleFound (s : State) : Host.Outcome State Fault Refusal :=
  .next <| match s.blc.line with
    | .busy => s.setLine .idle
    | .sending => if s.ownEntry.isSome then s else s.setLine .idle
    | .idle => s
    | .recovery => s
    | .stuck => s

/-- START_BIT_RECOGNISED (R120): another station's frame begins on the idle line (R131). -/
def execStartBitRecognised (s : State) : Host.Outcome State Fault Refusal :=
  .next (if s.blc.line = .idle then s.setLine .busy else s)

end Sys2Proof.Machine
end

