-- ==== Sys2Proof/Machine/Link.lean ====
section
/-! DEFINITION. The Depot Link Port's receiver (R135, R138) and transmitter (R135, R141). -/

namespace Sys2Proof.Machine

/-- The Depot Link Port's state changed. -/
def State.modDlp (s : State) (f : Dlp → Dlp) : State := { s with dlp := f s.dlp }

/-- The receiver replaced. -/
def State.setReceiver (s : State) (r : Receiver) : State := s.modDlp fun d => { d with receiver := r }

/-! ## Receiving -/

/-- What a character does to a frame in reception (R135). -/
inductive CharUse where
  /-- It is taken by a receiver that waits for an idle: ignored. -/
  | ignored
  /-- It begins a frame or goes on with one. -/
  | joins (chars : List Byte)
  /-- It is a length byte above 56. -/
  | badLength
  /-- It is the last character of a frame. -/
  | completes (chars : List Byte)
deriving DecidableEq, Repr

/-- The number of characters of a frame whose first characters have been received: 6 plus the length (R135). -/
def frameSize (chars : List Byte) : Nat := 6 + field chars 0 1

/-- What a character is to the receiver (R135). -/
def Receiver.use (r : Receiver) (char : Byte) : CharUse :=
  match r with
  | .awaitIdle => .ignored
  | .ready => if 56 < char.toNat then .badLength else .joins [char]
  | .inFrame chars =>
    if frameSize chars ≤ chars.length + 1 then .completes (chars ++ [char]) else .joins (chars ++ [char])

/-- A malformed frame discarded (R135). -/
def State.malformed (s : State) (next : Receiver) : State := (s.setReceiver next).raise (.depot .depotRxError) false

/-- The checks of a complete frame (R138). -/
def State.checkFrame (s : State) (chars : List Byte) : State :=
  if !depotCrcOk chars then s.raise (.depot .depotRxError) false
  else if s.dlp.rx.length < 8 then s.modDlp fun d => { d with rx := d.rx ++ [depotFrameOf chars] }
  else s.raise (.depot .depotRxOverrun) false

/-- DEPOT_RX_CHARACTER (R135): a character that neither completes a frame nor faults it. -/
def execDepotRxCharacter (char : Byte) (s : State) : Host.Outcome State Fault Refusal :=
  .next <| match s.dlp.receiver.use char with
    | .joins chars => s.setReceiver (.inFrame chars)
    | .ignored => s
    | .badLength => s
    | .completes _ => s

/-- DEPOT_FRAME_COMPLETE (R135, R138): characters after it are ignored until the next idle. -/
def execDepotFrameComplete (char : Byte) (s : State) : Host.Outcome State Fault Refusal :=
  .next <| match s.dlp.receiver.use char with
    | .completes chars => (s.setReceiver .awaitIdle).checkFrame chars
    | .ignored => s
    | .badLength => s
    | .joins _ => s

/-- DEPOT_RX_BAD_LENGTH (R135). -/
def execDepotRxBadLength (char : Byte) (s : State) : Host.Outcome State Fault Refusal :=
  .next <| match s.dlp.receiver.use char with
    | .badLength => s.malformed .awaitIdle
    | .ignored => s
    | .joins _ => s
    | .completes _ => s

/-- DEPOT_RX_FRAMING_FAULT (R135). A fault in the first character after an idle begins and discards a frame (log entry
18, DEDUCED). -/
def execDepotRxFramingFault (s : State) : Host.Outcome State Fault Refusal :=
  .next <| match s.dlp.receiver with
    | .awaitIdle => s
    | .ready => s.malformed .awaitIdle
    | .inFrame _ => s.malformed .awaitIdle

/-- DEPOT_LINK_IDLE (R135): a frame in reception is malformed, and the next character begins a frame. -/
def execDepotLinkIdle (s : State) : Host.Outcome State Fault Refusal :=
  .next <| match s.dlp.receiver with
    | .inFrame _ => s.malformed .ready
    | .awaitIdle => s.setReceiver .ready
    | .ready => s

/-! ## Sending -/

/-- The group of the next frame to begin: the upper group first (R141). -/
def Dlp.nextGroup (d : Dlp) : Option Group :=
  if !d.upper.isEmpty then some .upper else if !d.lower.isEmpty then some .lower else none

/-- Whether the transmitter can begin a frame: nothing is being sent, no part of the 3 ms idle is left, and a frame is queued
(R135, R141). -/
def State.canSend (s : State) : Bool :=
  s.dlp.sending.isNone && s.dlp.idleLeft == 0 && s.dlp.nextGroup.isSome

/-- The oldest frame of the next group begun (R141). An upper frame that arrives while the first frame of a pair is being sent
goes before the second frame of the pair, as R141 orders the groups, and the pair is then not sent "at once" (R147; log entry
36, DEDUCED). -/
def Dlp.begin_ (d : Dlp) : Dlp :=
  match d.upper, d.lower with
  | f :: _, _ => { d with sending := some ⟨.upper, f.bytes⟩ }
  | [], item :: items =>
    { d with sending := some ⟨.lower, item.first.bytes⟩, lower := { item with begun := true } :: items }
  | [], [] => d

/-- DEPOT_TX_FRAME_START (R141). -/
def execDepotTxFrameStart (s : State) : Host.Outcome State Fault Refusal :=
  .next (if s.canSend then s.modDlp Dlp.begin_ else s)

/-- The lower group after its oldest frame has left: a pair keeps its second frame (R142, R147; log entry 17, DEDUCED). -/
def lowerSent : List RelayItem → List RelayItem
  | [] => []
  | item :: items =>
    match item.second with
    | some g => { item with first := g, second := none } :: items
    | none => items

/-- The transmit queue after the frame on the link has left it, with the idle that the next frame waits for (R135, R141). -/
def Dlp.sent (d : Dlp) (group : Group) : Dlp :=
  { d with
    upper := if group = .upper then d.upper.tail else d.upper
    lower := if group = .lower then lowerSent d.lower else d.lower
    sending := none
    idleLeft := 3 }

/-- Whether the frame that leaves is the answer to RESTART while the restart is pending (R141, R162). -/
def State.restartLeaves (s : State) (group : Group) : Bool :=
  s.mgu.restartPending && group == .upper && s.dlp.upper.head?.any isRestartAnswer

/-- A frame whose last character has left the link (R141, R162). -/
def State.frameSent (s : State) (group : Group) : State :=
  if s.restartLeaves group then s.restarted else s.modDlp fun d => d.sent group

/-- DEPOT_TX_FRAME_DONE (R141). -/
def execDepotTxFrameDone (s : State) : Host.Outcome State Fault Refusal :=
  .next <| match s.dlp.sending with
    | none => s
    | some x => s.frameSent x.group

end Sys2Proof.Machine
end

