-- ==== Sys2Proof/Machine/Deadlines.lean ====
section
/-! DEFINITION. The events of the clock: ticks, deadlines and silences (R6, R11, R13, R20, R21, R35, R36, R52, R69, R76, R83 to
R85), and the XSTOP input (R169). Each event acts when it is due; the test that it is due is a definition of its own. -/

namespace Sys2Proof.Machine

/-! ## Ticks -/

/-- ALLOCATION_TICK (R52). -/
def execAllocationTick (s : State) : Host.Outcome State Fault Refusal := .next s.askRound

/-- STEP_TIME_ADVANCE (R35). -/
def execStepTimeAdvance (s : State) : Host.Outcome State Fault Refusal := .next s.advanceStepTimes

/-- STEP_TIMEOUT (R36; log entry 24, DEDUCED). -/
def execStepTimeout (b : Bay) (s : State) : Host.Outcome State Fault Refusal :=
  .next (if s.stepTimedOut b then s.timeoutStep b else s)

/-! ## Deadlines of a bay -/

/-- Whether a deadline has been reached. -/
def State.reached (s : State) (t : Option Time) : Bool := t.any fun d => decide (d ≤ s.now)

/-- Whether the identifying deadline of a bay has been reached (R6). -/
def State.identDue (s : State) (b : Bay) : Bool :=
  (s.bay b).state == .identifying && s.reached (s.bay b).identDeadline

/-- IDENTIFYING_DEADLINE (R6). NO_DATA is raised without a lasting cause: no record age is watched in IDENTIFYING. -/
def execIdentifyingDeadline (b : Bay) (s : State) : Host.Outcome State Fault Refusal :=
  .next (if s.identDue b then (s.raise (.bay .noData b) false).enterState b .fault else s)

/-- Whether the check deadline of a bay has been reached (R13). -/
def State.checkDue (s : State) (b : Bay) : Bool :=
  (s.bay b).state == .checking && s.reached (s.bay b).checkDeadline

/-- CHECK_DEADLINE (R13). -/
def execCheckDeadline (b : Bay) (s : State) : Host.Outcome State Fault Refusal :=
  .next (if s.checkDue b then (s.raise (.bay .connection b) false).enterState b .fault else s)

/-- Whether a bay has been in TEMP_WAIT for 2 hours and LONG_COOL has not been raised in this stay (R11). -/
def State.longCoolDue (s : State) (b : Bay) : Bool :=
  (s.bay b).state == .tempWait && !(s.bay b).longCool && decide ((s.bay b).entryTime + 7200000 ≤ s.now)

/-- LONG_COOL_TIMEOUT (R11). -/
def execLongCoolTimeout (b : Bay) (s : State) : Host.Outcome State Fault Refusal :=
  .next (if s.longCoolDue b then
    (s.modBay b fun r => { r with longCool := true }).raise (.bay .longCool b) false else s)

/-- Whether the record age of a bay in a watched state has passed 3 s with the NO_DATA flag not set (R20). -/
def State.noDataDue (s : State) (b : Bay) : Bool :=
  (s.bay b).state.watched && !(s.bay b).noData && s.stale b

/-- NO_DATA_SET (R20, R21). -/
def execNoDataSet (b : Bay) (s : State) : Host.Outcome State Fault Refusal :=
  .next (if s.noDataDue b then s.setNoData b else s)

/-- Whether the escalation of a bay is due (R21). -/
def State.escalationDue (s : State) (b : Bay) : Bool :=
  (s.bay b).state.escalates && (s.bay b).escalation.any fun t => decide (t + 60000 ≤ s.now)

/-- NO_DATA_ESCALATION (R21). -/
def execNoDataEscalation (b : Bay) (s : State) : Host.Outcome State Fault Refusal :=
  .next (if s.escalationDue b then (s.raise (.bay .noData b) true).enterState b .fault else s)

/-! ## Phase deadlines -/

/-- The release record of a bay whose phase deadline, in the phase named, has been reached (R83 to R85). -/
def State.phaseDue (s : State) (b : Bay) (phase : Phase) : Option ReleaseRecord :=
  (s.release b).filter fun r => r.phase == phase && s.reached r.deadline

/-- UNLATCH_DEADLINE (R83). -/
def execUnlatchDeadline (b : Bay) (s : State) : Host.Outcome State Fault Refusal :=
  .next <| match s.phaseDue b .unlatching with
    | some record => s.latchFailure b record
    | none => s

/-- PICKUP_DEADLINE (R84). -/
def execPickupDeadline (b : Bay) (s : State) : Host.Outcome State Fault Refusal :=
  .next <| match s.phaseDue b .awaitingPickup with
    | some record => s.pickupEnded b record
    | none => s

/-- RELATCH_DEADLINE (R85). -/
def execRelatchDeadline (b : Bay) (s : State) : Host.Outcome State Fault Refusal :=
  .next <| match s.phaseDue b .relatching with
    | some _ => s.relatchFailure b
    | none => s

/-! ## The waiting list -/

/-- Whether a waiting entry's wait limit has passed (R76). -/
def WaitEntry.expired (e : WaitEntry) (now : Time) : Bool :=
  decide (1 ≤ e.request.limit ∧ e.request.limit ≤ 254) && decide (e.queued + e.request.limit * 60000 ≤ now)

/-- Whether the waiting entry of a tag expires (R76). -/
def State.waitDue (s : State) (tag : Nat) : Bool :=
  s.inService && s.rot.waiting.any fun e => e.request.tag == tag && e.expired s.now

/-- WAIT_LIMIT_EXPIRY (R76). -/
def execWaitLimitExpiry (tag : Nat) (s : State) : Host.Outcome State Fault Refusal :=
  .next (if s.waitDue tag then
    ((s.removeWaiting tag).releaseNotice (some tag) .expired none).askRound else s)

/-! ## The meter and the stop input -/

/-- Whether the meter has been silent for 5 s with METER_SILENT not set (R69). -/
def State.meterDue (s : State) : Bool :=
  !s.fal.meterSilent && decide (s.fal.meterArrival.getD 0 + 5000 ≤ s.now)

/-- METER_SILENT become active (R69). -/
def State.beginMeterSilent (s : State) : State :=
  (((s.modFal fun x => { x with meterSilent := true }).raise (.depot .meterSilent) true).recomputeBudget).askRound

/-- METER_SILENT_BEGIN (R69). -/
def execMeterSilentBegin (s : State) : Host.Outcome State Fault Refusal :=
  .next (if s.meterDue then s.beginMeterSilent else s)

/-- The XSTOP input as taken. -/
def State.setXstop (s : State) (v : Bool) : State := { s with cmn := { s.cmn with xstop := v } }

/-- XSTOP_ASSERTED (R169). -/
def execXstopAsserted (s : State) : Host.Outcome State Fault Refusal :=
  .next (if s.cmn.xstop then s else (s.setXstop true).raise (.depot .externalStop) true)

/-- XSTOP_RELEASED (R169). -/
def execXstopReleased (s : State) : Host.Outcome State Fault Refusal :=
  .next (if s.cmn.xstop then (s.setXstop false).endCause (.depot .externalStop) else s)

end Sys2Proof.Machine
end

