-- ==== Sys2Proof/Machine/Clock.lean ====
section
/-! DEFINITION. What the part does when no command waits (log entry 1, DESIGN CHOICE): it posts an event that its own state makes due, or
else one millisecond of the reference clock passes (R154). -/

namespace Sys2Proof.Machine

/-! ## The events that the state makes due -/

/-- The command that takes a request of a kind (R136, R139). -/
def requestCommand : Nat → Instr
  | 0x01 => .readStatus
  | 0x02 => .readBay
  | 0x03 => .readTable
  | 0x04 => .writeProfileHead
  | 0x05 => .writeProfileStep
  | 0x06 => .writeRegistry
  | 0x07 => .writeBayConfig
  | 0x08 => .writeShiftCall
  | 0x09 => .writeRelayMap
  | 0x0A => .writeAlarmMap
  | 0x0B => .setBudget
  | 0x0C => .startService
  | 0x0D => .stopService
  | 0x0E => .releaseRequest
  | 0x0F => .cancelRelease
  | 0x10 => .releaseBay
  | 0x11 => .bayReset
  | 0x12 => .ackConditions
  | 0x13 => .resume
  | 0x14 => .restart
  | 0x15 => .serviceFrame
  | _ => .unknownKindFrame

/-- The command that takes a frame of the Bay Line receive queue (R104, R105). -/
def FrameUse.command : FrameUse → Instr
  | .segment0 _ => .segment0
  | .group _ => .groupSegment
  | .stage _ => .stageReport
  | .latch _ => .latchReport
  | .meter => .meterReport
  | .service _ => .dockServiceFrame
  | .ignored => .ignoredFrame

/-- A command that stands in the list when it is due. -/
def whenDue (due : Bool) (c : Instr) : List Instr := if due then [c] else []

/-- The commands that take the oldest frames of the two receive queues (R104, R139). -/
def State.queueEvents (s : State) : List Instr :=
  (s.takeRequest.map fun p => requestCommand p.1.kind).toList ++
    (s.takeLine.map fun p => (s.frameUse p.1).command).toList

/-- The events of the two transmitters and of the line's recovery that are due (R127, R132, R141). The reading after an LRS
pulse is not among them: it needs the level of the line, which the outside gives (log entry 32, DESIGN CHOICE). -/
def State.lineEvents (s : State) : List Instr :=
  whenDue s.canStart (.bayLineTxStart) ++
    whenDue s.canSend (.depotTxFrameStart) ++
    whenDue s.attemptDue (.nextRecoveryAttempt)

/-- The deadlines of a bay that are due. -/
def State.bayEvents (s : State) (b : Bay) : List Instr :=
  whenDue (s.stepTimedOut b) (.stepTimeout b) ++
    whenDue (s.identDue b) (.identifyingDeadline b) ++
    whenDue (s.checkDue b) (.checkDeadline b) ++
    whenDue (s.longCoolDue b) (.longCoolTimeout b) ++
    whenDue (s.noDataDue b) (.noDataSet b) ++
    whenDue (s.escalationDue b) (.noDataEscalation b) ++
    whenDue ((s.phaseDue b .unlatching).isSome) (.unlatchDeadline b) ++
    whenDue ((s.phaseDue b .awaitingPickup).isSome) (.pickupDeadline b) ++
    whenDue ((s.phaseDue b .relatching).isSome) (.relatchDeadline b) ++
    whenDue (s.refreshIsDue b) (.refreshDue b)

/-- The waiting entries that expire (R76). -/
def State.waitEvents (s : State) : List Instr :=
  (s.rot.waiting.filter fun e => s.waitDue e.request.tag).map fun e => .waitLimitExpiry e.request.tag

/-- Every event that the state makes due. -/
def State.dueEvents (s : State) : List Instr :=
  s.queueEvents ++ s.lineEvents ++ allBays.flatMap s.bayEvents ++ s.waitEvents ++
    whenDue s.meterDue (.meterSilentBegin)

/-! ## The clock -/

/-- The timebase one millisecond on (R154): at the last seconds value the seconds count stays where it is. -/
def tickTime (now : Time) : Time :=
  if 4294967295 ≤ now / 1000 then 4294967295 * 1000 + (now + 1) % 1000 else now + 1

/-- The state with the timebase replaced. -/
def State.setNow (s : State) (t : Time) : State := { s with mgu := { s.mgu with now := t } }

/-- A millisecond of the reference clock: the timebase advances (R154), and the idle of the Depot Link runs out (R135), which
goes on when the seconds count stands at its last value. -/
def State.pass (s : State) : State :=
  { s.setNow (tickTime s.now) with dlp := { s.dlp with idleLeft := s.dlp.idleLeft - 1 } }

/-- The state with commands waiting, and a free value taken. -/
def State.chosen (s : State) (commands : List Instr) : State :=
  { s with pending := commands, freeCount := s.freeCount + 1 }

/-- The two events of an advance of the seconds count, in an order that the manual leaves open (R52; log entry 2, DESIGN CHOICE). -/
def State.secondEvents (s : State) : List Instr :=
  if Config.eventChoice s.freeCount % 2 = 0 then [.allocationTick, .stepTimeAdvance]
  else [.stepTimeAdvance, .allocationTick]

/-- One millisecond of the reference clock, with the ticks of an advance of the seconds count (R35, R52, R154). -/
def State.tick (s : State) : State :=
  let t := s.pass
  if t.seconds = s.seconds then t else t.chosen t.secondEvents

/-- What the part does when no command waits: the events that are due are taken one at a time, in an order that the manual
leaves open (log entries 1 and 2, DESIGN CHOICE). -/
def State.idle (s : State) : State :=
  match s.dueEvents with
  | [] => s.tick
  | [c] => { s with pending := [c] }
  | c :: cs => s.chosen [(c :: cs).getD (Config.eventChoice s.freeCount % (cs.length + 1)) c]

end Sys2Proof.Machine
end

