-- ==== Sys2Proof/Machine/Dispatch.lean ====
section
/-! DEFINITION. The dispatcher: each command's one meaning. -/

namespace Sys2Proof.Machine

def exec (i : Instr) (s : State) : Host.Outcome State Fault Refusal :=
  match i with
  | .powerOnReset => Sys2Proof.Machine.execPowerOnReset s
  | .readStatus => Sys2Proof.Machine.execReadStatus s
  | .readBay => Sys2Proof.Machine.execReadBay s
  | .readTable => Sys2Proof.Machine.execReadTable s
  | .writeProfileHead => Sys2Proof.Machine.execWriteProfileHead s
  | .writeProfileStep => Sys2Proof.Machine.execWriteProfileStep s
  | .writeRegistry => Sys2Proof.Machine.execWriteRegistry s
  | .writeBayConfig => Sys2Proof.Machine.execWriteBayConfig s
  | .writeShiftCall => Sys2Proof.Machine.execWriteShiftCall s
  | .writeRelayMap => Sys2Proof.Machine.execWriteRelayMap s
  | .writeAlarmMap => Sys2Proof.Machine.execWriteAlarmMap s
  | .setBudget => Sys2Proof.Machine.execSetBudget s
  | .startService => Sys2Proof.Machine.execStartService s
  | .stopService => Sys2Proof.Machine.execStopService s
  | .releaseRequest => Sys2Proof.Machine.execReleaseRequest s
  | .cancelRelease => Sys2Proof.Machine.execCancelRelease s
  | .releaseBay => Sys2Proof.Machine.execReleaseBay s
  | .bayReset => Sys2Proof.Machine.execBayReset s
  | .ackConditions => Sys2Proof.Machine.execAckConditions s
  | .resume => Sys2Proof.Machine.execResume s
  | .restart => Sys2Proof.Machine.execRestart s
  | .serviceFrame => Sys2Proof.Machine.execServiceFrame s
  | .unknownKindFrame => Sys2Proof.Machine.execUnknownKindFrame s
  | .depotFrameComplete char => Sys2Proof.Machine.execDepotFrameComplete char s
  | .depotLinkIdle => Sys2Proof.Machine.execDepotLinkIdle s
  | .depotRxFramingFault => Sys2Proof.Machine.execDepotRxFramingFault s
  | .depotRxBadLength char => Sys2Proof.Machine.execDepotRxBadLength char s
  | .depotTxFrameStart => Sys2Proof.Machine.execDepotTxFrameStart s
  | .depotTxFrameDone => Sys2Proof.Machine.execDepotTxFrameDone s
  | .bayLineTxStart => Sys2Proof.Machine.execBayLineTxStart s
  | .bayLineTxComplete => Sys2Proof.Machine.execBayLineTxComplete s
  | .arbitrationLost => Sys2Proof.Machine.execArbitrationLost s
  | .transmitError => Sys2Proof.Machine.execTransmitError s
  | .bayLineFrameEnd chars framingFault => Sys2Proof.Machine.execBayLineFrameEnd chars framingFault s
  | .lineIdleFound => Sys2Proof.Machine.execLineIdleFound s
  | .lineDominantTimeout => Sys2Proof.Machine.execLineDominantTimeout s
  | .lrsPulseReading dominant => Sys2Proof.Machine.execLrsPulseReading dominant s
  | .nextRecoveryAttempt => Sys2Proof.Machine.execNextRecoveryAttempt s
  | .refreshDue bay => Sys2Proof.Machine.execRefreshDue bay s
  | .segment0 => Sys2Proof.Machine.execSegment0 s
  | .groupSegment => Sys2Proof.Machine.execGroupSegment s
  | .stageReport => Sys2Proof.Machine.execStageReport s
  | .latchReport => Sys2Proof.Machine.execLatchReport s
  | .meterReport => Sys2Proof.Machine.execMeterReport s
  | .dockServiceFrame => Sys2Proof.Machine.execDockServiceFrame s
  | .ignoredFrame => Sys2Proof.Machine.execIgnoredFrame s
  | .allocationTick => Sys2Proof.Machine.execAllocationTick s
  | .stepTimeAdvance => Sys2Proof.Machine.execStepTimeAdvance s
  | .stepTimeout bay => Sys2Proof.Machine.execStepTimeout bay s
  | .identifyingDeadline bay => Sys2Proof.Machine.execIdentifyingDeadline bay s
  | .checkDeadline bay => Sys2Proof.Machine.execCheckDeadline bay s
  | .longCoolTimeout bay => Sys2Proof.Machine.execLongCoolTimeout bay s
  | .noDataSet bay => Sys2Proof.Machine.execNoDataSet bay s
  | .noDataEscalation bay => Sys2Proof.Machine.execNoDataEscalation bay s
  | .unlatchDeadline bay => Sys2Proof.Machine.execUnlatchDeadline bay s
  | .pickupDeadline bay => Sys2Proof.Machine.execPickupDeadline bay s
  | .relatchDeadline bay => Sys2Proof.Machine.execRelatchDeadline bay s
  | .waitLimitExpiry tag => Sys2Proof.Machine.execWaitLimitExpiry tag s
  | .meterSilentBegin => Sys2Proof.Machine.execMeterSilentBegin s
  | .xstopAsserted => Sys2Proof.Machine.execXstopAsserted s
  | .xstopReleased => Sys2Proof.Machine.execXstopReleased s
  | .startBitRecognised => Sys2Proof.Machine.execStartBitRecognised s
  | .depotRxCharacter char => Sys2Proof.Machine.execDepotRxCharacter char s

end Sys2Proof.Machine
end

