-- ==== Sys2Proof/Safety.lean ====
section
/-! DEFINITION. What the manual promises of every state of the part: the laws that a step keeps, and the vocabulary in which
claims about one command are stated (what a command leaves alone, and what stands at the front of a queue). -/

namespace Sys2Proof.Safety

open Sys2Proof.Machine

/-! ## The laws that every step keeps -/

/-- The budget law (R50, R51): the effective budget is the one that R50 gives, and the applied grants do not exceed it. The
budget is 0 on hold and in LOADING, so that every applied grant is then 0. -/
def BudgetLaw (s : State) : Prop :=
  s.fal.effective = s.effectiveBudget ∧ s.appliedSum ≤ s.fal.effective

/-- The condition law (R167): a condition that is active is latched. -/
def ConditionLaw (s : State) : Prop :=
  (∀ k, (s.cmn.depot.get k).active = true → (s.cmn.depot.get k).latched = true) ∧
    ∀ b k, ((s.cmn.bays.get b).get k).active = true → ((s.cmn.bays.get b).get k).latched = true

/-- The trip law (R172): TRIP is asserted exactly while a latched condition is of a kind selected for trip. -/
def TripLaw (s : State) : Prop := s.cmn.trip = s.cmn.tripRule

/-- The pack ID of a registry entry, if it is filled. -/
def packIdAt (s : State) (i : Fin 128) : Option Nat := (s.registry.get i).map (·.packId)

/-- The registry law (R94, R95): a filled entry's pack ID is not 0, and no two filled entries hold the same one. -/
def RegistryLaw (s : State) : Prop :=
  (∀ i, packIdAt s i ≠ some 0) ∧ ∀ i j, i ≠ j → packIdAt s i = packIdAt s j → packIdAt s i = none

/-- The law of the Bay Line transmit queue (R124, R126): at most 24 entries, one STOP, one drive entry for each bay, and
seven others. -/
def TxLaw (s : State) : Prop :=
  s.blc.tx.length ≤ 24 ∧ s.blc.tx.countP (fun e => e.what == .stop) ≤ 1 ∧
    (∀ b, s.blc.tx.countP (fun e => e.what == .drive b) ≤ 1) ∧ s.blc.tx.countP TxEntry.limited ≤ 7

/-- The capacities of the receive queues, of the Depot Link transmit queue and of the waiting list (R75, R130, R138,
R141). -/
def QueueLaw (s : State) : Prop :=
  s.blc.rx.length ≤ 16 ∧ s.dlp.rx.length ≤ 8 ∧ s.dlp.queued ≤ 32 ∧ s.rot.waiting.length ≤ 8

/-- The release law (R1, R80): there is a release record for each bay in RELEASING and for no other, and it holds the bay's
release origin. -/
def ReleaseLaw (s : State) : Prop :=
  ∀ b, ((s.release b).isSome = true ↔ (s.bay b).state = .releasing) ∧
    (s.release b).map (·.origin) = (s.bay b).origin

/-- The fields that R1 ties to states, in one bay record. -/
def FieldsHeld (s : State) (r : BayRecord) : Prop :=
  r.session.isSome = r.identified ∧
  (r.check.isSome = true → r.state = .checking) ∧
  (r.checkDeadline.isSome = true → r.state = .checking ∧ s.lineStuck = false) ∧
  (r.identDeadline.isSome = true → r.state = .identifying ∧ s.inService = true ∧ s.lineStuck = false) ∧
  (r.noData = true → r.state.watched = true) ∧
  (r.escalation.isSome = true → r.state.escalates = true ∧ r.noData = true ∧ s.lineStuck = false) ∧
  (r.reason.isSome = true → r.state = .quarantine ∨ (r.state = .releasing ∧ r.origin = some .quarantine)) ∧
  (r.urgency.isSome = true → r.state = .charging) ∧
  r.readyTime = (if r.state = .ready ∨ r.state = .charging ∨ (r.state = .releasing ∧ r.origin = some .ready)
    then r.session.bind (·.firstReady) else none) ∧
  (∀ x, r.session = some x → (x.firstReady.isSome = true ↔ x.counted = true)) ∧
  (r.packId.isSome = true → r.state.keepsPack = true) ∧
  (r.latest.isSome = true → r.state.keepsPack = true) ∧
  (r.state = .disabled → r.stage = none ∧ r.latch = none ∧ r.presence = none ∧ r.frozen = false ∧
    r.demand = 0 ∧ r.applied = 0 ∧ r.granted = 0)

/-- The field law (R1): in every bay record, a field that R1 ties to states is absent outside them. -/
def FieldLaw (s : State) : Prop := ∀ b, FieldsHeld s (s.bay b)

/-- Whether a bay may be in a state during LOADING (R24). -/
def loadingState : BayState → Bool
  | .disabled | .empty | .identifying | .fault => true
  | _ => false

/-- The service law (R24, R93): during LOADING every bay is DISABLED, EMPTY, IDENTIFYING or FAULT, and no request waits. -/
def ServiceLaw (s : State) : Prop :=
  s.inService = false → (∀ b, loadingState (s.bay b).state = true) ∧ s.rot.waiting = []

/-- The setpoint law (R22): mode ON only in CHARGING, in service, outside hold and with NO_DATA clear; mode PROBE only in
CHECKING and with current 0; mode OFF with current and voltage limit 0. -/
def SetpointLaw (s : State) : Prop :=
  ∀ b, ((s.bay b).setpoint.mode = .on →
      (s.bay b).state = .charging ∧ s.inService = true ∧ s.cmn.hold = false ∧ (s.bay b).noData = false) ∧
    ((s.bay b).setpoint.mode = .probe → (s.bay b).state = .checking ∧ (s.bay b).setpoint.current = 0) ∧
    ((s.bay b).setpoint.mode = .off → (s.bay b).setpoint = Setpoint.allOff)

/-- The bounds of the setpoint (R2, R22): a current above 0, or mode ON, stands only with a current step that is not REST, and
current and voltage limit are within the limits of the step and of the stage. Mode PROBE has the lesser of the step's voltage
target and the stage maximum voltage. A bay whose configuration entry is not enabled is DISABLED. -/
def BoundsLaw (s : State) : Prop :=
  ∀ b, ((s.config.get b).enabled = false → (s.bay b).state = .disabled) ∧
    ((s.bay b).setpoint.mode = .on ∨ 0 < (s.bay b).setpoint.current → ∃ p ∈ s.bayStep b, p.kind ≠ .rest ∧
      (s.bay b).setpoint.current ≤ min p.currentLimit (s.config.get b).maxCurrent ∧
      (s.bay b).setpoint.limit ≤ min p.voltageTarget (s.config.get b).maxVoltage) ∧
    ((s.bay b).setpoint.mode = .probe → ∃ p ∈ s.bayStep b,
      (s.bay b).setpoint.limit = min p.voltageTarget (s.config.get b).maxVoltage)

/-- The registry index that a bay holds. -/
def heldIndex (s : State) (b : Bay) : Option (Fin 128) := (s.bay b).session.map (·.registryIndex)

/-- The session law (R7, R100): no registry entry is held by two bays. -/
def SessionLaw (s : State) : Prop :=
  ∀ b c, b ≠ c → heldIndex s b = heldIndex s c → heldIndex s b = none

/-- The ready list law (R72): a bay is on the list if and only if it is READY, and at most once. -/
def ReadyLaw (s : State) : Prop :=
  s.rot.ready.Nodup ∧ ∀ b, b ∈ s.rot.ready ↔ (s.bay b).state = .ready

/-- Whether the registry entry that a bay holds has status WATCH. -/
def onWatchList (s : State) (b : Bay) : Bool :=
  ((s.bay b).session.bind fun x => s.registry.get x.registryIndex).map (·.status) == some .watch

/-- The place of bay `b` in the ready list is before that of bay `c` (R72): status IN_FLEET before WATCH, and within one status
the ready time ascending, and equal ready times by bay number ascending. -/
def Precedes (s : State) (b c : Bay) : Prop :=
  if onWatchList s b = onWatchList s c then
    ((s.bay b).readyTime.getD 0 < (s.bay c).readyTime.getD 0 ∨
      ((s.bay b).readyTime.getD 0 = (s.bay c).readyTime.getD 0 ∧ b < c))
  else onWatchList s c = true

/-- The order of the ready list (R72), with a ready time in every bay in READY and in every release that began there (R1). -/
def ReadyOrderLaw (s : State) : Prop :=
  s.rot.ready.Pairwise (Precedes s) ∧
    ∀ b, (s.bay b).state = .ready ∨ ((s.bay b).state = .releasing ∧ (s.bay b).origin = some .ready) →
      (s.bay b).readyTime.isSome = true

/-- The state of charge of a bay's latest pack record. -/
def chargeOf (s : State) (b : Bay) : Nat := ((s.bay b).latest.map (·.record.soc)).getD 0

/-! ## What a command leaves alone -/

/-- A bay record without the fields that a round, a hold entry or an evaluation of the setpoint may write (R22, R53, R173):
demand, applied grant, granted current, urgency class and setpoint. -/
def withoutGrants (r : BayRecord) : BayRecord :=
  { r with demand := 0, applied := 0, granted := 0, urgency := none, setpoint := Setpoint.allOff }

/-- Every bay but `b` keeps its record, but for the fields that a round, a hold entry or an evaluation may write. -/
def OtherBaysKept (b : Bay) (s t : State) : Prop :=
  ∀ c, c ≠ b → withoutGrants (t.bay c) = withoutGrants (s.bay c)

/-- Every bay keeps its record, but for the fields that a round, a hold entry or an evaluation may write. -/
def BaysKept (s t : State) : Prop := ∀ c, withoutGrants (t.bay c) = withoutGrants (s.bay c)

/-- The stored tables and settings: profiles, bay configuration, registry, budget parameters, shift call, relay map and alarm
map. -/
def TablesKept (s t : State) : Prop :=
  t.profiles = s.profiles ∧ t.config = s.config ∧ t.registry = s.registry ∧ t.fal.budget = s.fal.budget ∧
    t.rot.shiftCall = s.rot.shiftCall ∧ t.dlp.map = s.dlp.map ∧ t.cmn.map = s.cmn.map

/-- The Management Unit, the Report Decoder, the meter supervision, the waiting commands and the count of free values. -/
def ServiceKept (s t : State) : Prop :=
  t.mgu = s.mgu ∧ t.rdc = s.rdc ∧ t.fal.meterArrival = s.fal.meterArrival ∧ t.fal.meterSilent = s.fal.meterSilent ∧
    t.fal.feederOver = s.fal.feederOver ∧ t.fal.overRun = s.fal.overRun ∧ t.pending = s.pending ∧
    t.freeCount = s.freeCount

/-- The lists of the Rotation Unit. -/
def ListsKept (s t : State) : Prop := t.rot = s.rot

/-- The Bay Line Controller but for its transmit queue, and the Depot Link Port's receiver and receive queue. -/
def LinksKept (s t : State) : Prop :=
  { t.blc with tx := s.blc.tx } = s.blc ∧ t.dlp.receiver = s.dlp.receiver ∧ t.dlp.rx = s.dlp.rx ∧
    t.dlp.sending = s.dlp.sending ∧ t.dlp.idleLeft = s.dlp.idleLeft

/-! ## The front of a queue -/

/-- The oldest frame of the Depot Link receive queue is a request of a kind, with the rest of the queue behind it, and no
restart is pending (R139, R162). -/
def Asked (s : State) (kind : Nat) (f : DepotFrame) (rest : List DepotFrame) : Prop :=
  s.mgu.restartPending = false ∧ s.dlp.rx = f :: rest ∧ f.kind = kind

/-- The state with the oldest request taken. -/
def tookRequest (s : State) (rest : List DepotFrame) : State := { s with dlp := { s.dlp with rx := rest } }

/-- The answer to a request (R136, R137): its kind plus 40h, its tag, the result code and further content. -/
def answerFrame (f : DepotFrame) (result : Result) (extra : List Byte) : DepotFrame :=
  ⟨f.kind + 0x40, f.tag, be 1 result.code ++ extra⟩

/-- The state with a frame at the back of the upper group of the Depot Link transmit queue (R142). -/
def queuedUpper (s : State) (f : DepotFrame) : State :=
  { s with dlp := { s.dlp with upper := s.dlp.upper ++ [f] } }

/-- The transmit queue of the Depot Link has a place for a frame (R142). -/
def Room (s : State) : Prop := s.dlp.queued < 32

/-- The oldest frame of the Bay Line receive queue, with the rest of the queue behind it (R104). -/
def Heard (s : State) (f : LineFrame) (rest : List LineFrame) : Prop := s.blc.rx = f :: rest

/-- The state with the oldest Bay Line frame taken. -/
def tookLine (s : State) (rest : List LineFrame) : State := { s with blc := { s.blc with rx := rest } }

/-- The payload lengths that R136 allows for a request kind. -/
def allowedLength (kind len : Nat) : Bool :=
  match kind with
  | 0x01 | 0x0C | 0x0D | 0x13 | 0x14 => len == 0
  | 0x02 | 0x0E | 0x0F => len == 2
  | 0x03 | 0x12 => len == 3
  | 0x04 => len == 22
  | 0x05 => len == 16
  | 0x06 => len == 13
  | 0x07 => len == 7
  | 0x08 => len == 8
  | 0x09 => len == 14
  | 0x0A => len == 6
  | 0x0B => len == 12
  | 0x10 | 0x11 => len == 1
  | 0x15 => decide (1 ≤ len ∧ len ≤ 15)
  | _ => false

/-- The characters of a sound Bay Line frame of another station: header, destination, length, payload, CRC-8 (R122). -/
def heardFrame (header destination : Byte) (payload : List Byte) : List Byte :=
  let body := header :: destination :: be 1 payload.length ++ payload
  body ++ [crc8 body]

/-! ## Refused requests -/

/-- The answer of the first test that holds, if one holds. -/
def firstHolds : List (Bool × Result) → Option Result
  | [] => none
  | (holds, answer) :: rest => if holds then some answer else firstHolds rest

/-- The head of profile `n`, if it is written. -/
def headAt (s : State) (n : Nat) : Option ProfileHead := (s.profiles.list[n]?).bind (·.head)

/-- Step `k`, from 1 on, of profile `n`, if it is written. -/
def stepAt (s : State) (n k : Nat) : Option ProfileStep := (s.profiles.list[n]?).bind fun p => (p.steps.list[k - 1]?).join

/-- Some bay in an identified state holds profile `n` (R32). -/
def profileHeld (s : State) (n : Nat) : Bool :=
  allBays.any fun b => (s.bay b).identified && (s.bay b).session.any fun x => x.profile.val == n

/-- The state of the bay of a number is one of a list. -/
def bayIn (s : State) (n : Nat) (states : List BayState) : Bool := (bayOf n).any fun b => states.contains (s.bay b).state

/-- The tests of R28, in order, on the payload of a WRITE_PROFILE_HEAD. -/
def headRefusals (s : State) (p : List Byte) : List (Bool × Result) :=
  let i := field p 0 1
  let n := field p 1 1
  let temp := fun k => signedField p k 1
  let packOv := field p 16 2
  let topUp := field p 20 2
  [(decide (7 < i), .badValue),
   (profileHeld s i, .inUse),
   (decide (n < 1 ∨ 6 < n), .badValue),
   ([2, 3, 4, 5, 6, 7, 8, 9].any (fun k => decide (temp k < -40 ∨ 125 < temp k)) ||
      decide (temp 2 ≤ temp 3 ∨ temp 4 < temp 2 ∨ temp 3 ≤ temp 5), .badValue),
   (decide (temp 7 ≤ temp 6 ∨ temp 8 ≤ temp 7 ∨ temp 9 ≤ temp 8) ||
      [10, 11, 12, 13].any (fun k => decide (100 < field p k 1)), .badValue),
   (decide (2000 < field p 14 2), .badValue),
   (decide (packOv = 0 ∨ field p 18 2 = 0), .badValue),
   (decide (topUp ≠ 0 ∧ packOv ≤ topUp), .badValue),
   ((List.range n).any (fun k => (stepAt s i (k + 1)).any fun x => decide (packOv < x.voltageTarget)), .badValue),
   (decide (topUp ≠ 0 ∧ ∃ x ∈ stepAt s i n, x.kind = .rest ∨ x.voltageTarget ≤ topUp), .badValue)]

/-- The tests of R30, in order, on the payload of a WRITE_PROFILE_STEP. -/
def stepRefusals (s : State) (p : List Byte) : List (Bool × Result) :=
  let i := field p 0 1
  let k := field p 1 1
  let kind := stepKindOf (field p 2 1)
  let current := field p 3 2
  let target := field p 5 2
  let quota := field p 11 2
  let time := field p 13 2
  [(decide (7 < i ∨ k < 1 ∨ 6 < k), .badValue),
   (profileHeld s i, .inUse),
   ((headAt s i).isNone, .wrongState),
   (decide (∃ h ∈ headAt s i, h.stepCount < k), .badValue),
   (decide (3 < field p 2 1 ∨ 1 < field p 15 1), .badValue),
   (decide (kind ≠ some .rest ∧ (current < 1 ∨ 2000 < current)), .badValue),
   (decide (target = 0 ∨ ∃ h ∈ headAt s i, h.packOv < target), .badValue),
   (decide (kind = some .cc ∧ (field p 7 2 = 0 ∨ target < field p 7 2)), .badValue),
   (decide (kind = some .cv ∧ (field p 9 2 = 0 ∨ current ≤ field p 9 2)), .badValue),
   (decide (1440 < time), .badValue),
   (decide (kind = some .rest ∧ (time = 0 ∨ quota ≠ 0)), .badValue),
   (decide (kind = some .equalize ∧ quota = 0 ∧ time = 0), .badValue),
   (decide (∃ h ∈ headAt s i, k = h.stepCount ∧ h.topUp ≠ 0 ∧ (kind = some .rest ∨ target ≤ h.topUp)), .badValue)]

/-- The tests of R96, in order, on the payload of a WRITE_REGISTRY. -/
def entryRefusals (s : State) (p : List Byte) : List (Bool × Result) :=
  let i := field p 0 1
  let id := field p 1 4
  [(decide (127 < i), .badValue),
   (allBays.any fun b => (heldIndex s b).any fun j => j.val == i, .inUse),
   (decide (id ≠ 0 ∧ (7 < field p 5 1 ∨ 7 < field p 6 1 ∨ 2 < field p 7 1 ∨ 1 < field p 8 1)), .badValue),
   (decide (id ≠ 0 ∧ ∃ j : Fin 128, j.val ≠ i ∧ packIdAt s j = some id), .duplicate)]

/-- The tests of R2, in order, on the payload of a WRITE_BAY_CONFIG. -/
def configRefusals (s : State) (p : List Byte) : List (Bool × Result) :=
  let n := field p 0 1
  [(decide (n < 1 ∨ 16 < n ∨ 1 < field p 1 1 ∨ 2000 < field p 2 2 ∨ field p 6 1 < 50 ∨ 100 < field p 6 1), .badValue),
   (decide (field p 1 1 = 1 ∧ (field p 2 2 = 0 ∨ field p 4 2 = 0)), .badValue),
   (decide (field p 1 1 = 0 ∧ s.inService = true ∧ (∃ b ∈ bayOf n, (s.config.get b).enabled = true) ∧
      bayIn s n [.empty, .identifying, .quarantine, .fault] = false), .inUse)]

/-- Some entry of the payload of a WRITE_RELAY_MAP is not one that R144 allows. -/
def mapRefused (p : List Byte) : Bool :=
  let allowed := fun (onChange : Bool) (k : Nat) =>
    decide (field p k 1 ≤ 1 ∨ (onChange = true ∧ field p k 1 = 2) ∨
      (field p k 1 = 3 ∧ 2 ≤ field p (k + 1) 1 ∧ field p (k + 1) 1 ≤ 255))
  !([0, 2, 4, 6].all (allowed true) && [8, 10].all (allowed false) && [4, 5].contains (field p 12 1))

/-- The tests of R77, in order, that refuse a RELEASE_REQUEST. -/
def releaseRefusals (s : State) (f : DepotFrame) : List (Bool × Result) :=
  let k := field f.payload 0 1
  let headless := !s.rot.ready.any fun b => (s.bay b).session.any fun x => x.packType.val == k
  [(!s.inService, .wrongState),
   (decide (7 < k), .badValue),
   (s.rot.waiting.any (fun e => e.request.tag == f.tag) ||
      allBays.any (fun b => ((s.release b).bind (·.request)).any fun q => q.tag == f.tag), .duplicate),
   (headless && field f.payload 1 1 == 0, .noneReady),
   (headless && decide (8 ≤ s.rot.waiting.length), .listFull)]

/-- The tests of R78 that refuse a CANCEL_RELEASE. -/
def cancelRefusals (s : State) (tag : Nat) : List (Bool × Result) :=
  let waiting := s.rot.waiting.any fun e => e.request.tag == tag
  let releasing := allBays.any fun b => ((s.release b).bind (·.request)).any fun q => q.tag == tag
  [(!waiting && releasing, .wrongState), (!waiting && !releasing, .unknownTag)]

/-- The highest item number of each table of R158, in the order of the table codes. -/
def lastItems : List Nat := [7, 47, 127, 16, 7, 6, 22, 0, 15, 7, 15, 16, 16]

/-- The answer that refuses a request of a kind, by the tests of the rule that owns it, or none where no test refuses it. -/
def refusal (s : State) (f : DepotFrame) (kind : Nat) : Option Result :=
  let p := f.payload
  let n := field p 0 1
  firstHolds <| match kind with
    | 0x02 => [(decide (n < 1 ∨ 16 < n ∨ 2 < field p 1 1), .badValue)]
    | 0x03 => [(decide (12 < n), .badValue),
        (decide (([3, 11, 12].contains n = true ∧ field p 1 1 < 1) ∨ ∃ k ∈ lastItems[n]?, k < field p 1 1), .badValue)]
    | 0x04 => headRefusals s p
    | 0x05 => stepRefusals s p
    | 0x06 => entryRefusals s p
    | 0x07 => configRefusals s p
    | 0x09 => [(mapRefused p, .badValue)]
    | 0x0A => [(decide (2 ^ 23 ≤ field p 0 3 ∨ 2 ^ 23 ≤ field p 3 3), .badValue)]
    | 0x0C => [(s.inService, .wrongState), (decide (s.fal.budget.feeder = 0), .badValue),
        (decide (∀ b, (s.config.get b).enabled = false), .badValue)]
    | 0x0D => [(!s.inService, .wrongState), (decide (∃ b, (s.bay b).state = .releasing), .wrongState)]
    | 0x0E => releaseRefusals s f
    | 0x0F => cancelRefusals s (field p 0 2)
    | 0x10 => [(decide (n < 1 ∨ 16 < n), .badValue), (!s.inService, .wrongState),
        (!bayIn s n [.ready, .quarantine, .fault], .wrongState)]
    | 0x11 => [(decide (n < 1 ∨ 16 < n), .badValue), (bayIn s n [.releasing, .disabled], .wrongState)]
    | 0x12 => [(decide (16 < n), .badValue), (decide (n = 0 ∧ 1024 ≤ field p 1 2), .badValue),
        (decide (8192 ≤ field p 1 2), .badValue)]
    | 0x13 => [(!s.cmn.hold, .wrongState), (s.cmn.anyLatched s.cmn.map.hold, .wrongState)]
    | 0x15 => [(decide (n < 1 ∨ 16 < n), .badValue), (decide (s.dlp.map.serviceDown = .refuse), .refusedByMap),
        (bayIn s n [.disabled], .wrongState), (decide (7 ≤ s.blc.tx.countP TxEntry.limited), .listFull)]
    | _ => []

/-! ## Deadlines and outcomes -/

/-- A deadline of the state has passed. -/
def Passed (s : State) (d : Option Time) : Prop := ∃ t, d = some t ∧ t ≤ s.now

/-- A condition is latched. -/
def Latched (s : State) (id : CondId) : Prop := (s.flags id).latched = true

/-- A bay has moved to FAULT and holds none of the fields tied to other states (R18), and a condition of it is latched; the
other bays and the stored tables are as they were. -/
def Faulted (s t : State) (b : Bay) (k : BayKind) : Prop :=
  (t.bay b).state = .fault ∧ (t.bay b).session = none ∧ (t.bay b).setpoint = Setpoint.allOff ∧
    (t.bay b).entryTime = s.now ∧ (t.bay b).packId = (s.bay b).packId ∧ (t.bay b).latest = (s.bay b).latest ∧
    (t.bay b).latch = (s.bay b).latch ∧ (t.bay b).presence = (s.bay b).presence ∧
    Latched t (.bay k b) ∧ OtherBaysKept b s t ∧ TablesKept s t

/-- The Bay Line transmit queue holds an entry of a kind. -/
def Queued (s : State) (w : TxWhat) : Prop := ∃ e ∈ s.blc.tx, e.what = w

/-- A pack record as clamped when it is applied (R111). -/
def clampedRecord (p : PackRecord) : PackRecord :=
  { p with
    current := max (-2000) (min 2000 p.current)
    highest := max (-40) (min 125 p.highest)
    lowest := max (-40) (min 125 p.lowest)
    soc := min 100 p.soc }

/-- The oldest Bay Line frame, taken by command `c`, completes a pack record of a bay: a segment 0 of a record without cell
groups, or the last group segment in time, in order and with the voltages that its place requires (R107, R108). -/
def Completes (s : State) (c : Instr) (f : LineFrame) (b : Bay) (p : PackRecord) : Prop :=
  (c = .segment0 ∧ s.frameUse f = .segment0 b ∧ f.payload.length = 14 ∧ p = segment0Record f.payload ∧ p.groups = 0 ∧
    p.total = 1) ∨
  (c = .groupSegment ∧ s.frameUse f = .group b ∧ ∃ x ∈ s.rdc.assembly.get b, f.segmentIndex = x.expected ∧
    1 ≤ x.expected ∧ x.expected ≤ 6 ∧ x.expected + 1 = x.part.total ∧ f.stamp ≤ x.stamp + 40 ∧
    4 * (x.expected - 1) < x.part.groups ∧ x.part.groups ≤ 4 * x.expected ∧
    f.payload.length = 1 + 2 * (x.part.groups - 4 * (x.expected - 1)) ∧
    p = { x.part with cells := x.part.cells ++
      (List.range (x.part.groups - 4 * (x.expected - 1))).map fun k => field f.payload (1 + 2 * k) 2 })

/-- A complete record is sound and no repeat (R111, R112). -/
def Fresh (s : State) (b : Bay) (p : PackRecord) : Prop :=
  p.packId ≠ 0 ∧ p.lowest ≤ p.highest ∧ (s.rdc.alive.get b).last ≠ some p.alive

/-- None of the fault tests of R15 holds of a record for a bay with a pack. -/
def RecordSafe (s : State) (b : Bay) (p : PackRecord) : Prop :=
  p.faultFlag = false ∧ (∀ id ∈ (s.bay b).packId, id = p.packId) ∧
    ((s.bay b).identified = true → ∀ h ∈ s.bayHead b, p.voltage ≤ h.packOv ∧ ∀ v ∈ p.cells, v ≤ h.cellOv)

/-- The identity lookup of a bay with a pack ID (R7), and the session that it begins when it finds the pack chargeable (R8),
between the state before the record `q` and the state after it. -/
def LookedUp (s t : State) (b : Bay) (id : Nat) (q : PackRecord) : Prop :=
  (t.bay b).packId = some id ∧ OtherBaysKept b s t ∧ TablesKept s t ∧
  ((∀ i, packIdAt s i ≠ some id) →
    (t.bay b).state = .quarantine ∧ (t.bay b).reason = some .unknown ∧ Latched t (.bay .unknownPack b)) ∧
  ∀ i e, s.registry.get i = some e → e.packId = id → (∀ j, packIdAt s j = some id → j = i) →
    (e.status = .retired → (t.bay b).state = .quarantine ∧ (t.bay b).reason = some .retired) ∧
    (e.status ≠ .retired → (s.profiles.get e.profile).complete = false →
      (t.bay b).state = .quarantine ∧ (t.bay b).reason = some .noProfile) ∧
    (e.status ≠ .retired → (s.profiles.get e.profile).complete = true →
      ((∃ c, c ≠ b ∧ (s.bay c).identified = true ∧ heldIndex s c = some i) →
        (t.bay b).state = .quarantine ∧ (t.bay b).reason = some .duplicate ∧ Latched t (.bay .identity b)) ∧
      ((∀ c, c ≠ b → (s.bay c).identified = true → heldIndex s c ≠ some i) →
        ∀ h ∈ (s.profiles.get e.profile).head, ∀ step ∈ (s.profiles.get e.profile).steps.get 0,
          (t.bay b).session = some ⟨i, e.packType, e.profile, 1, 0,
            if step.quota = 0 then none else some (step.quota * 3600), 0, 0, 0, 0, false, false, none⟩ ∧
          (t.bay b).reason = none ∧
          (h.startLimit ≤ q.highest ∨ q.lowest < h.coldLimit → (t.bay b).state = .tempWait) ∧
          (q.highest < h.startLimit → h.coldLimit ≤ q.lowest →
            (t.bay b).state = .checking ∧ (t.bay b).check = some ⟨0, 0⟩ ∧
            (t.bay b).checkDeadline = (if s.lineStuck = true then none else some (s.now + 5000)) ∧
            (t.bay b).setpoint = ⟨.probe, 0, min step.voltageTarget (s.config.get b).maxVoltage⟩) ∧
          t.flags (.bay .overTemp b) = s.flags (.bay .overTemp b)))

/-- A record at or above the abort limit or below the cold limit has moved a bay in CHECKING or CHARGING to TEMP_WAIT, with
OVER_TEMP active in the first case alone (R10). -/
def WarmedOrCold (s t : State) (b : Bay) (h : ProfileHead) (q : PackRecord) : Prop :=
  (h.abortLimit ≤ q.highest ∨ q.lowest < h.coldLimit → (t.bay b).state = .tempWait ∧ (t.bay b).entryTime = s.now) ∧
  (h.abortLimit ≤ q.highest → (t.flags (.bay .overTemp b)).active = true ∧ Latched t (.bay .overTemp b)) ∧
  (q.highest < h.abortLimit → t.flags (.bay .overTemp b) = s.flags (.bay .overTemp b))

/-- The setpoint current of a bay in CHARGING, in service, when a record is tested for exit: NO_DATA has ended by then, and the
setpoint has been evaluated where it was set (R14, R20, R22). -/
def offeredCurrent (s : State) (b : Bay) (step : ProfileStep) : Nat :=
  if (s.bay b).noData = false then (s.bay b).setpoint.current
  else if step.kind = .rest ∨ s.cmn.hold = true then 0
  else min (s.bay b).granted (min step.currentLimit (s.config.get b).maxCurrent)

/-- A session after a record has moved the run that its step's kind uses (R39, R40). -/
def tested (step : ProfileStep) (offered : Nat) (q : PackRecord) (y : Session) : Session :=
  if step.kind = .cc then { y with endRun := if step.endVoltage ≤ q.voltage then min 3 (y.endRun + 1) else 0 }
  else if step.kind = .cv ∧ step.taper < offered then
    { y with taperRun := if q.current ≤ (step.taper : Int) then min 3 (y.taperRun + 1) else 0 }
  else y

/-- An exit test of the current step holds (R33, R41). -/
def Ended (step : ProfileStep) (z : Session) : Prop :=
  (step.kind = .cc ∧ 3 ≤ z.endRun) ∨ (step.kind = .cv ∧ 3 ≤ z.taperRun) ∨
    (step.kind ≠ .rest ∧ z.stepCharge = some 0)

/-- What an action of the relay map makes of an item (R145, R146): `after` is the state after it, `counted n` the state before
with the item's decimation counter at n, and `sent` the sending of the item, with or without the memory of ON_CHANGE. -/
def Filtered (action : RelayAction) (count : Nat) (same : Bool) (after : State) (counted : Nat → State)
    (sent : State → Bool → State) : Prop :=
  (action = .drop → after = counted count) ∧
  (action = .all → after = sent (counted count) false) ∧
  (∀ n, action = .everyN n → count + 1 < n → after = counted (count + 1)) ∧
  (∀ n, action = .everyN n → n ≤ count + 1 → after = sent (counted 0) false) ∧
  (action = .onChange → same = true → after = counted count) ∧
  (action = .onChange → same = false → after = sent (counted count) true)

/-- The state with the decimation counter of SERVICE_UP replaced for a bay. -/
def countedServiceUp (s : State) (b : Bay) (n : Nat) : State :=
  { s with dlp := { s.dlp with counters := { s.dlp.counters with
    serviceUp := s.dlp.counters.serviceUp.set b n } } }

/-- A relay item at the back of the lower group: one frame, or a pair, with the next send counts (R140, R142, R147). -/
def relayed (s : State) (kind : Nat) (payload : List Byte) (second : Option (Nat × List Byte))
    (memo : Option MemoRef) : State :=
  { s with dlp := { s.dlp with
      sendCount := if second.isSome then ((s.dlp.sendCount + 1) % 65536 + 1) % 65536 else (s.dlp.sendCount + 1) % 65536
      lower := s.dlp.lower ++ [⟨⟨kind, s.dlp.sendCount, payload⟩,
        second.map fun g => ⟨g.1, (s.dlp.sendCount + 1) % 65536, g.2⟩, memo, false⟩] } }

/-- The last frame of the upper group is a notice of a kind with a payload. -/
def LastNotice (s : State) (kind : Nat) (payload : List Byte) : Prop :=
  ∃ n, s.dlp.upper.getLast? = some ⟨kind, n, payload⟩

/-- What becomes of a dispatch request whose release in bay `b` failed (R88), between the state before the failure and the
state after it: the release of the ready head of its type starts for it, or it ends with the failure outcome, or it goes to
the front of the waiting list. -/
def RequestReturned (s t : State) (b : Bay) (q : Request) (outcome : ReleaseOutcome) : Prop :=
  (∀ h ∈ s.readyHead q.packType, h ≠ b → (s.bay h).state = .ready → s.blc.tx.countP TxEntry.limited ≤ 5 →
    t.release h = some ⟨.dispatch, some q, .ready, .unlatching,
      if s.lineStuck = true then none else some (s.now + 5000)⟩ ∧
    (t.bay h).state = .releasing ∧ (t.bay h).origin = some .ready ∧ h ∉ t.rot.ready ∧
    Queued t (.latchCmd h .unlatch) ∧ t.rot.waiting = s.rot.waiting ∧
    (s.dlp.queued + 16 ≤ 32 → LastNotice t 0x90 (releasePayload (some q.tag) .started (some h) (s.bay h).packId))) ∧
  (s.readyHead q.packType = none → q.limit = 0 ∨ 8 ≤ s.rot.waiting.length →
    t.rot.waiting = s.rot.waiting ∧
    (s.dlp.queued + 16 ≤ 32 → LastNotice t 0x90 (releasePayload (some q.tag) outcome (some b) (s.bay b).packId))) ∧
  (s.readyHead q.packType = none → q.limit ≠ 0 → s.rot.waiting.length < 8 →
    t.rot.waiting = ⟨q, s.now⟩ :: s.rot.waiting ∧
    (s.dlp.queued + 16 ≤ 32 → LastNotice t 0x90 (releasePayload (some q.tag) .requeued (some b) (s.bay b).packId)))

/-- The release of bay `b` has failed in UNLATCHING or AWAITING_PICKUP (R18, R83, R87, R88), between the state before the
failure and the state after it: the bay is in FAULT without its session, its record is closed, a RELATCH is asked for where
the queue has a place, a MAINTENANCE release has its outcome, and the request of a DISPATCH release is handled. -/
def ReleaseFailed (s t : State) (b : Bay) (r : ReleaseRecord) (outcome : ReleaseOutcome) : Prop :=
  (t.bay b).state = .fault ∧ (t.bay b).session = none ∧ (t.bay b).setpoint = Setpoint.allOff ∧
  (t.bay b).packId = (s.bay b).packId ∧ t.release b = none ∧ TablesKept s t ∧
  (s.placeFree = true → Queued t (.latchCmd b .relatch)) ∧
  (r.kind = .maintenance → OtherBaysKept b s t ∧ ListsKept { s with rot := { s.rot with releases := t.rot.releases } } t ∧
    (s.dlp.queued + 16 ≤ 32 → LastNotice t 0x90 (releasePayload none outcome (some b) (s.bay b).packId))) ∧
  (r.kind = .dispatch → ∀ q ∈ r.request, RequestReturned s t b q outcome)

/-- Bay `b` has entered READY with session `y` (R73), between the state before the event and the state after it. With no waiting
request of its type it stands on the ready list. Otherwise the release for the first such request has started, and that request
has left the waiting list (R81); where the Bay Line has no place for the UNLATCH, the release has failed at once (R81, R83). -/
def EntersReady (s t : State) (b : Bay) (y : Session) : Prop :=
  ((∀ e ∈ s.rot.waiting, e.request.packType ≠ y.packType) →
    (t.bay b).state = .ready ∧ (t.bay b).session = some y ∧ (t.bay b).readyTime = y.firstReady ∧ b ∈ t.rot.ready ∧
    (∀ c, c ≠ b → (c ∈ t.rot.ready ↔ c ∈ s.rot.ready)) ∧ t.rot.waiting = s.rot.waiting ∧ OtherBaysKept b s t) ∧
  ∀ before e behind, s.rot.waiting = before ++ e :: behind → (∀ x ∈ before, x.request.packType ≠ y.packType) →
    e.request.packType = y.packType →
    (s.placeFree = true →
      (t.bay b).state = .releasing ∧ (t.bay b).origin = some .ready ∧ (t.bay b).session = some y ∧
      (t.bay b).readyTime = y.firstReady ∧ (t.bay b).setpoint = Setpoint.allOff ∧
      t.release b = some ⟨.dispatch, some e.request, .ready, .unlatching,
        if s.lineStuck = true then none else some (s.now + 5000)⟩ ∧
      b ∉ t.rot.ready ∧ (∀ c, c ≠ b → (c ∈ t.rot.ready ↔ c ∈ s.rot.ready)) ∧
      t.rot.waiting = s.rot.waiting.filter (fun x => x.request.tag != e.request.tag) ∧ Queued t (.latchCmd b .unlatch) ∧
      OtherBaysKept b s t ∧
      (s.dlp.queued + 16 ≤ 32 →
        LastNotice t 0x90 (releasePayload (some e.request.tag) .started (some b) (s.bay b).packId))) ∧
    (s.placeFree = false → (∀ x ∈ s.blc.tx, ∀ c, x.what ≠ .latchCmd b c) →
      (t.bay b).state = .fault ∧ (t.bay b).session = none ∧ t.release b = none ∧ Latched t (.bay .latch b))

/-- A session after its last step has ended (R43): both runs are 0, and it is counted, with the ready time of its first
completion. -/
def completed (s : State) (z : Session) : Session :=
  { z with taperRun := 0, endRun := 0, counted := true, firstReady := if z.counted = true then z.firstReady
    else some (s.now / 1000) }

/-- The registry after a session's last step has ended (R43, R101): the first completion counts a cycle and the session charge
in the pack's entry, and nothing else changes. -/
def CountedOnce (s t : State) (z : Session) : Prop :=
  ∀ i, t.registry.get i = if i = z.registryIndex ∧ z.counted = false then (s.registry.get i).map (fun e => { e with
    cycles := min 65535 (e.cycles + 1), lastCharge := min 65535 (z.sessionCharge / 3600) }) else s.registry.get i

/-- Bay `b` has returned to its release origin (R84, R85): READY with both runs 0, its ready time kept, and read by R73;
QUARANTINE with its reason; or FAULT. -/
def Returned (s t : State) (b : Bay) (r : ReleaseRecord) : Prop :=
  (t.bay b).packId = (s.bay b).packId ∧ (t.bay b).latest = (s.bay b).latest ∧ TablesKept s t ∧
  (r.origin ≠ .ready → (t.bay b).state = r.origin.state ∧ (t.bay b).session = none ∧ t.release b = none ∧
    OtherBaysKept b s t ∧ ListsKept { s with rot := { s.rot with releases := t.rot.releases } } t) ∧
  (r.origin = .quarantine → (t.bay b).reason = (s.bay b).reason) ∧
  (r.origin = .ready → ∀ x ∈ (s.bay b).session,
    EntersReady s t b { x with taperRun := 0, endRun := 0 } ∧
    ((s.bay b).readyTime = x.firstReady → (t.bay b).state ≠ .fault → (t.bay b).readyTime = (s.bay b).readyTime) ∧
    ((∀ e ∈ s.rot.waiting, e.request.packType ≠ x.packType) → t.release b = none))

/-- The first frame that has joined the upper group is a RELEASE notice with the tag of a release, if it holds one, an outcome,
the bay and its pack ID (R89). -/
def FirstNoticed (s t : State) (b : Bay) (r : ReleaseRecord) (outcome : ReleaseOutcome) : Prop :=
  ∃ more, t.dlp.upper = s.dlp.upper ++
    ⟨0x90, s.dlp.sendCount, releasePayload (r.request.map (·.tag)) outcome (some b) (s.bay b).packId⟩ :: more

/-- A queue whose only entry on the line is `e`, between the entries before and behind it. -/
def OnLine (s : State) (before behind : List TxEntry) (e : TxEntry) : Prop :=
  s.blc.line = .sending ∧ s.blc.tx = before ++ e :: behind ∧ e.onLine = true ∧ ∀ x ∈ before, x.onLine = false

end Sys2Proof.Safety
end

