-- ==== Sys2Proof/Certificates/Slice0/Obligations.lean ====
section
/-! DEFINITION. The statements for the provers. Each is a proposition about the model, named by what it states. -/

open Sys2Proof Sys2Proof.Machine Sys2Proof.Safety

/-! ## Reset, step and clock -/

/-- POWER_ON_RESET gives every block its power-on value (R25, R27, R48, R71, R90, R93, R94, R119, R134, R144, R150, R166,
R171, R175), and what power-on reset leaves, block by block. The queue of commands and the count of free values are the model's
own and stay (log entry 5). -/
def Obligations.ResetLeavesPowerOnValues : Prop :=
  (∀ s : State, exec .powerOnReset s = .next { State.reset with pending := s.pending, freeCount := s.freeCount }) ∧
  (∀ b, (State.reset.bay b).state = .disabled ∧ (State.reset.bay b).setpoint = ⟨.off, 0, 0⟩ ∧
    (State.reset.bay b).session = none ∧ (State.reset.bay b).packId = none ∧ (State.reset.bay b).latest = none ∧
    (State.reset.bay b).applied = 0 ∧ (State.reset.bay b).entryTime = 0 ∧
    State.reset.config.get b = ⟨false, 0, 0, 90⟩ ∧ State.reset.release b = none) ∧
  (∀ p, (State.reset.profiles.get p).head = none ∧ ∀ k, (State.reset.profiles.get p).steps.get k = none) ∧
  (∀ i, State.reset.registry.get i = none) ∧ (∀ t, State.reset.rot.shiftCall.get t = 0) ∧
  State.reset.fal = ⟨⟨0, 0, 1000, 500, 30⟩, 0, 0, none, false, false, 0⟩ ∧
  State.reset.rot.ready = [] ∧ State.reset.rot.waiting = [] ∧
  State.reset.blc.tx = [⟨.stop, 0, false, false, 0⟩] ∧ State.reset.blc.rx = [] ∧ State.reset.blc.line = .busy ∧
  State.reset.dlp.receiver = .awaitIdle ∧ State.reset.dlp.rx = [] ∧ State.reset.dlp.upper = [] ∧
  State.reset.dlp.lower = [] ∧ State.reset.dlp.sendCount = 0 ∧
  State.reset.dlp.map = ⟨.everyN 4, .onChange, .all, .everyN 5, .all, .all, .refuse⟩ ∧
  State.reset.mgu = ⟨.loading, 0, false⟩ ∧ State.reset.cmn.hold = false ∧ State.reset.cmn.trip = false ∧
  (∀ k, State.reset.cmn.map.trip.get k = decide (k ∈ ([0, 2, 3, 13] : List (Fin 23))) ∧
    State.reset.cmn.map.hold.get k = decide (k ∈ ([0, 2, 3] : List (Fin 23)))) ∧
  (∀ k, State.reset.cmn.depot.get k = ⟨false, false⟩) ∧
  (∀ b k, (State.reset.cmn.bays.get b).get k = ⟨false, false⟩) ∧
  (∀ b, State.reset.rdc.assembly.get b = none ∧ State.reset.rdc.alive.get b = ⟨none, 0⟩) ∧
  State.reset.rdc.lastMeter = none ∧
  (∀ b, State.reset.dlp.counters.telemetry.get b = 0 ∧ State.reset.dlp.counters.stage.get b = 0 ∧
    State.reset.dlp.counters.latch.get b = 0 ∧ State.reset.dlp.counters.serviceUp.get b = 0 ∧
    State.reset.dlp.counters.bayState.get b = 0) ∧ State.reset.dlp.counters.meter = 0 ∧
  (∀ b, State.reset.dlp.memos.telemetry.get b = none ∧ State.reset.dlp.memos.stage.get b = none ∧
    State.reset.dlp.memos.latch.get b = none) ∧ State.reset.dlp.memos.meter = none ∧
  State.reset.dlp.sending = none ∧ State.reset.blc.errorRun = 0 ∧ State.reset.blc.recovery = none ∧
  State.reset.blc.nextAttempt = none ∧ (∀ b, State.reset.blc.refresh.get b = none) ∧
  (∀ b k, (State.reset.cmn.originBays.get b).get k = false) ∧ ∀ k, State.reset.cmn.originDepot.get k = false

/-- A step with a command in front of the queue is that command executed with the rest of the queue. -/
def Obligations.StepRunsFrontCommand : Prop :=
  ∀ (c : Instr) (cs : List Instr) (s : State), step { s with pending := c :: cs } = exec c { s with pending := cs }

/-- With no command waiting, the model posts one event that is due, or else lets a millisecond pass, with the two ticks of a
seconds advance in either order: the model's choice, log entries 1 and 2. A millisecond that passes wraps into the seconds
count, which stops at 4,294,967,295 (R154), and takes 1 from the idle time that the Depot Link still owes (R135; log entry 16). -/
def Obligations.IdleStepPostsDueEventOrTicks : Prop :=
  (∀ n : Time, n / 1000 ≤ 4294967295 →
    tickTime n % 1000 = (n % 1000 + 1) % 1000 ∧
    tickTime n / 1000 = if n % 1000 = 999 then min 4294967295 (n / 1000 + 1) else n / 1000) ∧
  ∀ s : State, s.pending = [] → ∃ t, step s = .next t ∧
    ((∃ c ∈ s.dueEvents, t.pending = [c] ∧ { t with pending := [], freeCount := s.freeCount } = s) ∨
      (s.dueEvents = [] ∧ { t with pending := [], freeCount := s.freeCount } = { s with
          mgu := { s.mgu with now := tickTime s.now }
          dlp := { s.dlp with idleLeft := s.dlp.idleLeft - 1 } } ∧
        (t.pending = [] ∨ t.pending = [.allocationTick, .stepTimeAdvance] ∨
          t.pending = [.stepTimeAdvance, .allocationTick]) ∧
        (t.pending = [] ↔ tickTime s.now / 1000 = s.now / 1000)))

/-- No command stops the part. None touches the queue of commands or the count of free values, POWER_ON_RESET and a RESTART that
takes effect included: that these two fields of the model's own stay is the model's choice, log entry 5. -/
def Obligations.EveryCommandHasANextState : Prop :=
  ∀ (c : Instr) (s : State), ∃ t, exec c s = .next t ∧ t.pending = s.pending ∧ t.freeCount = s.freeCount

/-! ## The laws that every step keeps -/

/-- Every law of `Safety.lean` holds after power-on reset. -/
def Obligations.LawsHoldAtReset : Prop :=
  BudgetLaw State.reset ∧ ConditionLaw State.reset ∧ TripLaw State.reset ∧ RegistryLaw State.reset ∧
    TxLaw State.reset ∧ QueueLaw State.reset ∧ ReleaseLaw State.reset ∧ FieldLaw State.reset ∧
    ServiceLaw State.reset ∧ SetpointLaw State.reset ∧ SessionLaw State.reset ∧ ReadyLaw State.reset ∧
    BoundsLaw State.reset ∧ ReadyOrderLaw State.reset

/-- The applied grants never exceed the effective budget, which is always the one that R50 gives (R50, R51). -/
def Obligations.StepKeepsBudgetLaw : Prop :=
  ∀ s t : State, BudgetLaw s → step s = .next t → BudgetLaw t

/-- A condition that is active is latched (R167), and TRIP is asserted if and only if a latched condition is of a kind selected
for trip (R172). -/
def Obligations.StepKeepsConditionAndTripLaws : Prop :=
  (∀ s t : State, ConditionLaw s → step s = .next t → ConditionLaw t) ∧
  ∀ s t : State, TripLaw s → step s = .next t → TripLaw t

/-- No two filled registry entries hold the same pack ID, and none holds 0 (R94, R95). -/
def Obligations.StepKeepsPackIdsDistinct : Prop :=
  ∀ s t : State, RegistryLaw s → step s = .next t → RegistryLaw t

/-- The Bay Line transmit queue stays within its 24 places, with one STOP, one drive entry per bay and seven others (R124, R126),
and the receive queues, the Depot Link transmit queue and the waiting list stay within their capacities (R75, R130, R138, R141). -/
def Obligations.StepKeepsQueueLaws : Prop :=
  (∀ s t : State, TxLaw s → step s = .next t → TxLaw t) ∧
  ∀ s t : State, QueueLaw s → step s = .next t → QueueLaw t

/-- There is a release record for exactly the bays in RELEASING, with the bay's release origin (R1, R80), and fields of a bay
record that R1 ties to states are absent outside them (R1). The ready time stands in READY, in CHARGING in a top-up and in
RELEASING from READY, with the seconds count of the session's first completion, and is absent in every other state: that it
returns from there after a temperature wait of a top-up is log entry 8. -/
def Obligations.StepKeepsReleaseAndFieldLaws : Prop :=
  (∀ s t : State, ReleaseLaw s → step s = .next t → ReleaseLaw t) ∧
  ∀ s t : State, FieldLaw s → ReleaseLaw s → step s = .next t → FieldLaw t

/-- During LOADING every bay is DISABLED, EMPTY, IDENTIFYING or FAULT, and no request waits (R24, R93). -/
def Obligations.StepKeepsServiceLaw : Prop :=
  ∀ s t : State, ServiceLaw s → ReleaseLaw s → step s = .next t → ServiceLaw t

/-- A setpoint is ON only in CHARGING, in service, outside hold and with NO_DATA clear, and PROBE only in CHECKING. A current above
0 stands only in a step that is not REST, and never exceeds the step's current limit or the stage maximum current; the same of
the voltage limit, which in PROBE is the lesser of the step's voltage target and the stage maximum voltage (R2, R3, R22). -/
def Obligations.StepKeepsSetpointLaw : Prop :=
  (∀ s t : State, SetpointLaw s → step s = .next t → SetpointLaw t) ∧
  ∀ s t : State, BoundsLaw s → SetpointLaw s → FieldLaw s → ReleaseLaw s → step s = .next t → BoundsLaw t

/-- No registry entry is held by two bays (R7). -/
def Obligations.StepKeepsEntriesHeldOnce : Prop :=
  ∀ s t : State, SessionLaw s → FieldLaw s → ReleaseLaw s → step s = .next t → SessionLaw t

/-- A bay is on the ready list if and only if it is READY, and at most once, and the list is kept in its order: IN_FLEET before
WATCH, then by ready time, then by bay number (R72). -/
def Obligations.StepKeepsReadyLaw : Prop :=
  (∀ s t : State, ReadyLaw s → FieldLaw s → ReleaseLaw s → step s = .next t → ReadyLaw t) ∧
  ∀ s t : State, ReadyOrderLaw s → ReadyLaw s → FieldLaw s → ReleaseLaw s → step s = .next t → ReadyOrderLaw t

/-! ## The allocation arithmetic -/

/-- The stages of the demand: 0 for a REST step or a bay with NO_DATA (R56), and else the step's limit derated by the highest
cell temperature of the latest record, capped by the stage, reclaimed and converted to AC power (R57 to R60). The derate
percent follows the curve, with its bounds, for a curve that R28 accepts (R57). -/
def Obligations.DemandFollowsStagesAndCurve : Prop :=
  (∀ (s : State) (b : Bay) (x : Session) (p : ProfileStep) (h : ProfileHead) (a : Arrived),
    (s.bay b).state = .charging → (s.bay b).session = some x → s.stepOf x = some p → s.headOf x = some h →
    (s.bay b).latest = some a →
    (p.kind = .rest ∨ (s.bay b).noData = true → s.demandOf b = Demand.zero) ∧
    (p.kind ≠ .rest → (s.bay b).noData = false → ∃ cap,
      cap = min (p.currentLimit * deratePercent h a.record.highest / 100) (s.config.get b).maxCurrent ∧
      (s.demandOf b).iDem = (if 0 < s.fal.budget.reclaim ∧ 0 < (s.bay b).setpoint.current ∧
          a.record.current.toNat + s.fal.budget.reclaim < (s.bay b).setpoint.current
        then min cap (a.record.current.toNat + s.fal.budget.reclaim) else cap) ∧
      (s.demandOf b).vLim = min p.voltageTarget (s.config.get b).maxVoltage ∧
      (s.demandOf b).watts = ceilDiv (ceilDiv ((s.demandOf b).iDem * (s.demandOf b).vLim) 10000 * 100)
        (s.config.get b).efficiency)) ∧
  ∀ (h : ProfileHead) (t : Int), h.d1.temp < h.d2.temp → h.d2.temp < h.d3.temp → h.d3.temp < h.d4.temp →
    h.d1.percent ≤ 100 → h.d2.percent ≤ 100 → h.d3.percent ≤ 100 → h.d4.percent ≤ 100 →
    (t ≤ h.d1.temp → deratePercent h t = h.d1.percent) ∧ (h.d4.temp ≤ t → deratePercent h t = h.d4.percent) ∧
    (∀ p q : DeratePoint, (p, q) ∈ [(h.d1, h.d2), (h.d2, h.d3), (h.d3, h.d4)] → p.temp ≤ t → t < q.temp →
      (deratePercent h t : Int) = p.percent + ((t - p.temp) * ((q.percent : Int) - p.percent)).fdiv (q.temp - p.temp) ∧
      min p.percent q.percent ≤ deratePercent h t ∧ deratePercent h t ≤ max p.percent q.percent) ∧
    deratePercent h t ≤ 100

/-- The classes take the budget in turn, each out of what the classes before it left (R61). In a class whose demands exceed the
remainder (R62, R63) each bay has the floor of its exact share and at most one further watt, the further watts go to the first
bays below their demand, none passes its demand, and the shares sum to the remainder. -/
def Obligations.ClassesAreServedInTurnAndProRata : Prop :=
  (∀ (budget : Nat) (rows : List (Option Nat × Nat)) (i cls : Nat) (h : i < rows.length), cls ≤ 3 →
    rows[i].1 = some cls →
    (apportion budget rows)[i]? =
      (shareClass ((List.range cls).foldl (fun r c => remainderAfter r (classDemands rows c)) budget)
        (classDemands rows cls))[i]?) ∧
  (∀ (R : Nat) (demands : List Nat),
    (demands.sum ≤ R → shareClass R demands = demands ∧ remainderAfter R demands = R - demands.sum) ∧
    (R < demands.sum → remainderAfter R demands = 0)) ∧
  ∀ (R : Nat) (demands : List Nat), R < demands.sum →
    (shareClass R demands).length = demands.length ∧ (shareClass R demands).sum = R ∧
    (∀ k (h : k < demands.length) (h' : k < (shareClass R demands).length),
      R * demands[k] / demands.sum ≤ (shareClass R demands)[k] ∧
      (shareClass R demands)[k] ≤ R * demands[k] / demands.sum + 1 ∧ (shareClass R demands)[k] ≤ demands[k]) ∧
    ∀ j k (hj : j < demands.length) (hj' : j < (shareClass R demands).length) (hk : k < demands.length)
      (hk' : k < (shareClass R demands).length), j < k →
      R * demands[j] / demands.sum < demands[j] → (shareClass R demands)[j] = R * demands[j] / demands.sum →
      (shareClass R demands)[k] = R * demands[k] / demands.sum

/-- ALLOCATION_TICK in service outside hold runs a round (R52 to R54, R61, R64 to R67, R91, R92). The candidates of each pack
type, by state of charge and then by number, take class 0 for the waiting requests, class 1 for the rest of the shortfall, and
class 3 in an EQUALIZE step or else 2. The budget is shared among the classes; a computed grant whose current is below the
profile's minimum becomes 0; the applied grant is the lesser of what is left and the old grant plus the ramp step; the granted
current is what the applied grant gives, at most the demand current. Every other bay has nothing, the headroom is what is left,
and nothing outside grants, setpoints and drive entries changes. -/
def Obligations.AllocationTickRunsRound : Prop :=
  ∀ s : State, s.inService = true → s.cmn.hold = false → ∃ t, exec .allocationTick s = .next t ∧
    (∀ (k : Fin 8) (order : List Bay), order.Nodup →
      (∀ b, b ∈ order ↔ (s.bay b).state = .charging ∧ ∃ x ∈ (s.bay b).session, x.packType = k) →
      order.Pairwise (fun b c => chargeOf s c < chargeOf s b ∨ (chargeOf s b = chargeOf s c ∧ b < c)) →
      ∀ w ready k0 k1, w = s.rot.waiting.countP (fun e => e.request.packType == k) →
        ready = s.rot.ready.countP (fun b => (s.bay b).session.any fun x => x.packType == k) →
        k0 = min w order.length → k1 = min (s.rot.shiftCall.get k + w - ready - k0) (order.length - k0) →
        ∀ i b, order[i]? = some b → (t.bay b).urgency = some (if i < k0 then 0 else if i < k0 + k1 then 1
          else if (s.bayStep b).map (·.kind) = some .equalize then 3 else 2)) ∧
    (∀ b, (s.bay b).state = .charging → ∀ d efficiency computed checked, d = s.demandOf b →
      efficiency = (s.config.get b).efficiency →
      computed = (apportion s.fal.effective (allBays.map fun c => ((t.bay c).urgency, (t.bay c).demand))).getD b.val 0 →
      checked = (if 0 < computed ∧ min d.iDem (computed * efficiency / 100 * 10000 / d.vLim) <
          (s.bayHead b).elim 0 (·.minCurrent) then 0 else computed) →
      (t.bay b).demand = d.watts ∧ (t.bay b).applied = min checked ((s.bay b).applied + s.fal.budget.ramp) ∧
      (t.bay b).granted = min d.iDem ((t.bay b).applied * efficiency / 100 * 10000 / d.vLim)) ∧
    (∀ b, (s.bay b).state ≠ .charging → (t.bay b).applied = 0 ∧ (t.bay b).demand = 0 ∧ (t.bay b).granted = 0 ∧
      (t.bay b).urgency = none) ∧
    t.appliedSum ≤ t.fal.effective ∧ t.fal = { s.fal with headroom := s.fal.effective - t.appliedSum } ∧
    BaysKept s t ∧ TablesKept s t ∧ ServiceKept s t ∧ ListsKept s t ∧ LinksKept s t ∧ t.dlp = s.dlp ∧ t.cmn = s.cmn

/-! ## Reads -/

/-- READ_STATUS, READ_BAY and READ_TABLE are answered OK with the fields, the part or the items asked for, and change nothing
else (R156 to R158). -/
def Obligations.ReadsAnswerAndChangeNothing : Prop :=
  ∀ (s : State) (f : DepotFrame) (rest : List DepotFrame), Room s →
    (Asked s 0x01 f rest → f.payload.length = 0 →
      exec .readStatus s =
        .next (queuedUpper (tookRequest s rest) (answerFrame f .ok (encodeFields s.statusFields)))) ∧
    (∀ b bytes, Asked s 0x02 f rest → f.payload.length = 2 → bayOf (field f.payload 0 1) = some b →
      s.partBytes b (field f.payload 1 1) = some bytes →
      exec .readBay s =
        .next (queuedUpper (tookRequest s rest)
          (answerFrame f .ok (bayByte (some b) ++ be 1 (field f.payload 1 1) ++ bytes)))) ∧
    (∀ table, Asked s 0x03 f rest → f.payload.length = 3 → s.readable (field f.payload 0 1) = some table →
      table.first ≤ field f.payload 1 1 → field f.payload 1 1 ≤ table.last →
      exec .readTable s =
        .next (queuedUpper (tookRequest s rest)
          (answerFrame f .ok (be 1 (field f.payload 0 1) ++ be 1 (field f.payload 1 1) ++
            be 1 (table.take (field f.payload 1 1) (field f.payload 2 1)).length ++
            (table.take (field f.payload 1 1) (field f.payload 2 1)).flatten))))

/-- The lengths of the answers that R137 gives: 46 bytes for READ_STATUS, 49, 51 and 15 for the parts of READ_BAY, and at most
56 for READ_TABLE, result code included, while no pack record holds more than 24 voltages. -/
def Obligations.ReadAnswersHaveTheirLengths : Prop :=
  ∀ s : State, (be 1 Result.ok.code ++ encodeFields s.statusFields).length = 46 ∧
    (∀ b part bytes, s.partBytes b part = some bytes →
      (be 1 Result.ok.code ++ (bayByte (some b) ++ be 1 part ++ bytes)).length =
        if part = 0 then 49 else if part = 1 then 51 else 15) ∧
    ((∀ b a, (s.bay b).latest = some a → a.record.cells.length ≤ 24) →
      ∀ code first count table, s.readable code = some table →
        (be 1 Result.ok.code ++ (be 1 code ++ be 1 first ++ be 1 (table.take first count).length ++
          (table.take first count).flatten)).length ≤ 56)

/-! ## Refused requests -/

/-- A request whose payload length is not the one R136 gives for its kind is answered BAD_FRAME and changes nothing else, and a
frame of another kind is answered UNKNOWN_KIND with its kind byte (R139). A request of a right length that the tests of its rule
refuse is answered with the code of the first test that holds, and changes nothing else: `refusal` in Safety.lean lists the
tests of R2, R26, R28, R30, R77 to R79, R96, R144, R148, R157, R158, R160, R161, R170, R171 and R174 on the bytes of the request.
While a restart is pending, no request is taken (R162). -/
def Obligations.MisformedRequestsAreAnsweredAndChangeNothing : Prop :=
  (∀ (s : State) (f : DepotFrame) (rest : List DepotFrame) (kind : Nat), Room s → Asked s kind f rest →
    (1 ≤ kind → kind ≤ 0x15 → allowedLength kind f.payload.length = false →
      exec (requestCommand kind) s = .next (queuedUpper (tookRequest s rest) (answerFrame f .badFrame []))) ∧
    (kind = 0 ∨ 0x16 ≤ kind →
      exec .unknownKindFrame s =
        .next (queuedUpper (tookRequest s rest) ⟨0x7F, f.tag, [4#8, BitVec.ofNat 8 kind]⟩))) ∧
  (∀ (s : State) (f : DepotFrame) (rest : List DepotFrame) (kind : Nat) (code : Result), Room s → Asked s kind f rest →
    allowedLength kind f.payload.length = true → refusal s f kind = some code →
    exec (requestCommand kind) s = .next (queuedUpper (tookRequest s rest) (answerFrame f code []))) ∧
  ∀ (s : State) (kind : Nat), s.mgu.restartPending = true → exec (requestCommand kind) s = .next s

/-! ## Writes -/

/-- An accepted WRITE_PROFILE_HEAD stores the head and empties the slots above its step count, and changes no other profile
and no other table (R28, R29). -/
def Obligations.WriteProfileHeadStoresHead : Prop :=
  ∀ (s : State) (f : DepotFrame) (rest : List DepotFrame) (i : Fin 8), Asked s 0x04 f rest → f.payload.length = 22 →
    finOf 8 (field f.payload 0 1) = some i → s.profileInUse i = false →
    firstTest (headTests (s.profiles.get i) (headOfPayload f.payload)) = .ok →
    ∃ t, exec .writeProfileHead s = .next t ∧ (t.profiles.get i).head = some (headOfPayload f.payload) ∧
      (∀ k, (t.profiles.get i).steps.get k =
        if k.val < field f.payload 1 1 then (s.profiles.get i).steps.get k else none) ∧
      (∀ j, j ≠ i → t.profiles.get j = s.profiles.get j) ∧ t.config = s.config ∧ t.registry = s.registry ∧
      t.fal.budget = s.fal.budget ∧ t.mgu = s.mgu ∧
      ((∀ b, (s.bay b).state ≠ .quarantine) → Room s →
        t = queuedUpper { tookRequest s rest with profiles := t.profiles }
          (answerFrame f .ok (flagByte (t.profiles.get i).complete)))

/-- An accepted WRITE_PROFILE_STEP stores the step with the fields that its kind does not use held as 0, and changes no other
slot, head or table (R27, R30, R31). -/
def Obligations.WriteProfileStepStoresStep : Prop :=
  ∀ (s : State) (f : DepotFrame) (rest : List DepotFrame) (i : Fin 8) (k : Fin 6) (step : ProfileStep),
    Asked s 0x05 f rest → f.payload.length = 16 → finOf 8 (field f.payload 0 1) = some i →
    field f.payload 1 1 = k.val + 1 → s.judgeStep i (field f.payload 1 1) f.payload = (.ok, some step) →
    step.voltageTarget = field f.payload 5 2 ∧ step.maxTime = field f.payload 13 2 ∧
    (step.kind = .rest → step.currentLimit = 0 ∧ step.quota = 0) ∧
    (step.kind ≠ .rest → step.currentLimit = field f.payload 3 2 ∧ step.quota = field f.payload 11 2) ∧
    step.endVoltage = (if step.kind = .cc then field f.payload 7 2 else 0) ∧
    step.taper = (if step.kind = .cv then field f.payload 9 2 else 0) ∧
    ∃ t, exec .writeProfileStep s = .next t ∧ (t.profiles.get i).steps.get k = some step ∧
      (t.profiles.get i).head = (s.profiles.get i).head ∧
      (∀ j, j ≠ k → (t.profiles.get i).steps.get j = (s.profiles.get i).steps.get j) ∧
      (∀ j, j ≠ i → t.profiles.get j = s.profiles.get j) ∧ t.config = s.config ∧ t.registry = s.registry ∧
      t.fal.budget = s.fal.budget ∧ t.mgu = s.mgu ∧
      ((∀ b, (s.bay b).state ≠ .quarantine) → Room s →
        t = queuedUpper { tookRequest s rest with profiles := t.profiles }
          (answerFrame f .ok (flagByte (t.profiles.get i).complete)))

/-- An accepted WRITE_REGISTRY fills or empties one entry and leaves the others; the counts follow the counts action (R96,
R97). -/
def Obligations.WriteRegistryStoresEntry : Prop :=
  ∀ (s : State) (f : DepotFrame) (rest : List DepotFrame) (i : Fin 128) (e : Option RegEntry), Asked s 0x06 f rest →
    f.payload.length = 13 → finOf 128 (field f.payload 0 1) = some i → s.holderOf i = none →
    s.judgeEntry i f.payload = (.ok, e) →
    (e = none ↔ field f.payload 1 4 = 0) ∧
    (∀ x, e = some x → x.packId = field f.payload 1 4 ∧
      (field f.payload 8 1 = 1 → x.cycles = field f.payload 9 2 ∧ x.lastCharge = field f.payload 11 2) ∧
      (field f.payload 8 1 = 0 →
        (∀ o, s.registry.get i = some o → o.packId = x.packId → x.cycles = o.cycles ∧ x.lastCharge = o.lastCharge) ∧
        ((∀ o, s.registry.get i = some o → o.packId ≠ x.packId) → x.cycles = 0 ∧ x.lastCharge = 0))) ∧
    ∃ t, exec .writeRegistry s = .next t ∧ t.registry.get i = e ∧ (∀ j, j ≠ i → t.registry.get j = s.registry.get j) ∧
      t.profiles = s.profiles ∧ t.config = s.config ∧ t.fal.budget = s.fal.budget ∧ t.mgu = s.mgu ∧
      ((∀ b, (s.bay b).state ≠ .quarantine) → Room s →
        t = queuedUpper { tookRequest s rest with registry := t.registry }
          (answerFrame f .ok (be 1 i.val ++ entryBytes e)))

/-- An accepted WRITE_BAY_CONFIG stores the entry, enables the bay into EMPTY with its refresh due at once, or disables it with
its fields absent, or leaves its state (R2, R3, R129). A changed stage maximum of a bay that stays enabled bounds its setpoint at
once, and a setpoint that changes asks for a drive entry (R3, R22, R23). -/
def Obligations.WriteBayConfigEnablesAndDisables : Prop :=
  ∀ (s : State) (f : DepotFrame) (rest : List DepotFrame) (b : Bay) (c : BayConfig), Asked s 0x07 f rest →
    f.payload.length = 7 → bayOf (field f.payload 0 1) = some b → field f.payload 1 1 ≤ 1 →
    c = ⟨field f.payload 1 1 == 1, field f.payload 2 2, field f.payload 4 2, field f.payload 6 1⟩ →
    firstTest (s.configTests b c) = .ok →
    ∃ t, exec .writeBayConfig s = .next t ∧ t.config.get b = c ∧ (∀ d, d ≠ b → t.config.get d = s.config.get d) ∧
      OtherBaysKept b s t ∧ t.profiles = s.profiles ∧ t.registry = s.registry ∧ t.fal.budget = s.fal.budget ∧
      t.mgu = s.mgu ∧
      ((s.config.get b).enabled = false → c.enabled = true →
        (t.bay b).state = .empty ∧ t.blc.refresh.get b = some s.now ∧ (t.bay b).entryTime = s.now) ∧
      ((s.config.get b).enabled = true → c.enabled = false →
        (t.bay b).state = .disabled ∧ t.blc.refresh.get b = none ∧ (t.bay b).packId = none ∧ (t.bay b).latest = none ∧
        (t.bay b).latch = none ∧ (t.bay b).presence = none ∧ (t.bay b).setpoint = Setpoint.allOff ∧
        (t.bay b).applied = 0) ∧
      ((s.config.get b).enabled = c.enabled →
        withoutGrants (t.bay b) = withoutGrants (s.bay b) ∧ t.blc.refresh = s.blc.refresh) ∧
      (Room s → (s.config.get b).enabled = true → c.enabled = true →
        ((s.config.get b).maxCurrent ≠ c.maxCurrent ∨ (s.config.get b).maxVoltage ≠ c.maxVoltage →
          (∀ p ∈ s.bayStep b, (s.bay b).state = .charging → p.kind ≠ .rest → s.inService = true →
            s.cmn.hold = false → (s.bay b).noData = false → (t.bay b).setpoint =
              ⟨.on, min (s.bay b).granted (min p.currentLimit c.maxCurrent), min p.voltageTarget c.maxVoltage⟩) ∧
          (∀ p ∈ s.bayStep b, (s.bay b).state = .checking →
            (t.bay b).setpoint = ⟨.probe, 0, min p.voltageTarget c.maxVoltage⟩) ∧
          ((t.bay b).setpoint ≠ (s.bay b).setpoint → Queued t (.drive b))) ∧
        ((s.config.get b).maxCurrent = c.maxCurrent → (s.config.get b).maxVoltage = c.maxVoltage →
          t.bays = s.bays ∧ t.blc = s.blc))

/-- WRITE_SHIFT_CALL clamps each count above 16 to 16, replaces all eight and answers with them; no other command but a
power-on reset changes the table, whose counts are 0 after power-on (R90). -/
def Obligations.WriteShiftCallReplacesTable : Prop :=
  (∀ (s : State) (f : DepotFrame) (rest : List DepotFrame), Asked s 0x08 f rest → f.payload.length = 8 →
    ∃ t, exec .writeShiftCall s = .next t ∧ (∀ k : Fin 8, t.rot.shiftCall.get k = min 16 (field f.payload k.val 1)) ∧
      t.rot = { s.rot with shiftCall := t.rot.shiftCall } ∧ BaysKept s t ∧ t.profiles = s.profiles ∧
      t.config = s.config ∧ t.registry = s.registry ∧ t.fal.budget = s.fal.budget ∧ ServiceKept s t ∧
      (Room s →
        t = queuedUpper ({ tookRequest s rest with rot := { s.rot with shiftCall := t.rot.shiftCall } }).askRound
          (answerFrame f .ok (t.rot.shiftCall.list.flatMap (be 1))))) ∧
  (∀ k, State.reset.rot.shiftCall.get k = 0) ∧
  ∀ (c : Instr) (s t : State), c ≠ .writeShiftCall → c ≠ .powerOnReset → exec c s = .next t →
    t.rot.shiftCall = s.rot.shiftCall

/-- SET_BUDGET clamps and stores the five parameters, and shares the budget anew at once in service outside hold (R48,
R49). -/
def Obligations.SetBudgetClampsAndSharesAnew : Prop :=
  ∀ (s : State) (f : DepotFrame) (rest : List DepotFrame), Asked s 0x0B f rest → f.payload.length = 12 → Room s →
    ∃ t, exec .setBudget s = .next t ∧
      t.fal.budget = ⟨min 120000 (field f.payload 0 3), min 120000 (field f.payload 3 3),
        min 10000 (field f.payload 6 2), max 50 (min 5000 (field f.payload 8 2)), min 500 (field f.payload 10 2)⟩ ∧
      t.fal.effective = (if s.inService = false ∨ s.cmn.hold = true then 0
        else if s.fal.meterSilent = true then t.fal.budget.blind else t.fal.budget.feeder) ∧
      (s.inService = true → s.cmn.hold = false →
        t.appliedSum ≤ t.fal.effective ∧ t.fal.headroom = t.fal.effective - t.appliedSum) ∧
      (s.inService = false ∨ s.cmn.hold = true → t.bays = s.bays) ∧
      BaysKept s t ∧ ListsKept s t ∧ ServiceKept s t ∧ t.cmn = s.cmn ∧
      t.dlp = { s.dlp with rx := rest, upper := s.dlp.upper ++ [answerFrame f .ok (budgetBytes t.fal.budget)] }

/-- WRITE_RELAY_MAP replaces the map and starts the counters and the memory of a changed entry anew; WRITE_ALARM_MAP replaces
both selections and recomputes TRIP without entering or leaving hold (R144, R171). -/
def Obligations.MapWritesReplaceMaps : Prop :=
  ∀ (s : State) (f : DepotFrame) (rest : List DepotFrame), Room s →
    (∀ m, Asked s 0x09 f rest → f.payload.length = 14 → mapOfPayload f.payload = some m →
      ∃ t, exec .writeRelayMap s = .next t ∧ t.dlp.map = m ∧
        t = queuedUpper { s with dlp := { s.dlp with
          rx := rest, map := m, counters := t.dlp.counters, memos := t.dlp.memos } } (answerFrame f .ok []) ∧
        (∀ b, t.dlp.counters.telemetry.get b =
            (if s.dlp.map.telemetry = m.telemetry then s.dlp.counters.telemetry.get b else 0) ∧
          t.dlp.counters.stage.get b = (if s.dlp.map.stage = m.stage then s.dlp.counters.stage.get b else 0) ∧
          t.dlp.counters.latch.get b = (if s.dlp.map.latch = m.latch then s.dlp.counters.latch.get b else 0) ∧
          t.dlp.counters.serviceUp.get b =
            (if s.dlp.map.serviceUp = m.serviceUp then s.dlp.counters.serviceUp.get b else 0) ∧
          t.dlp.counters.bayState.get b =
            (if s.dlp.map.bayState = m.bayState then s.dlp.counters.bayState.get b else 0) ∧
          t.dlp.memos.telemetry.get b =
            (if s.dlp.map.telemetry = m.telemetry then s.dlp.memos.telemetry.get b else none) ∧
          t.dlp.memos.stage.get b = (if s.dlp.map.stage = m.stage then s.dlp.memos.stage.get b else none) ∧
          t.dlp.memos.latch.get b = (if s.dlp.map.latch = m.latch then s.dlp.memos.latch.get b else none)) ∧
        t.dlp.counters.meter = (if s.dlp.map.meter = m.meter then s.dlp.counters.meter else 0) ∧
        t.dlp.memos.meter = (if s.dlp.map.meter = m.meter then s.dlp.memos.meter else none)) ∧
    (Asked s 0x0A f rest → f.payload.length = 6 → field f.payload 0 3 < 2 ^ 23 → field f.payload 3 3 < 2 ^ 23 →
      ∃ t, exec .writeAlarmMap s = .next t ∧
        (∀ k : Fin 23, t.cmn.map.trip.get k = (field f.payload 0 3).testBit k.val ∧
          t.cmn.map.hold.get k = (field f.payload 3 3).testBit k.val) ∧
        t.cmn.trip = t.cmn.tripRule ∧ t.cmn = { s.cmn with map := t.cmn.map, trip := t.cmn.trip } ∧
        t = queuedUpper { tookRequest s rest with cmn := t.cmn }
          (answerFrame f .ok (be 3 (bitsOf t.cmn.map.trip.list) ++ be 3 (bitsOf t.cmn.map.hold.list))))

/-! ## Service and restart -/

/-- START_SERVICE, accepted, enters IN_SERVICE, gives every bay in IDENTIFYING its deadline, and sets the effective budget (R6,
R24, R50, R160). -/
def Obligations.StartServiceEntersService : Prop :=
  ∀ (s : State) (f : DepotFrame) (rest : List DepotFrame), Asked s 0x0C f rest → f.payload.length = 0 →
    s.inService = false → s.fal.budget.feeder ≠ 0 → (∃ b, (s.config.get b).enabled = true) → Room s →
    ∃ t, exec .startService s = .next t ∧ t.mgu = { s.mgu with service := .inService } ∧
      (∀ b, (t.bay b).state = (s.bay b).state ∧ (t.bay b).session = (s.bay b).session ∧
        (t.bay b).packId = (s.bay b).packId ∧ (t.bay b).applied = (s.bay b).applied) ∧
      (∀ b, (t.bay b).identDeadline = if (s.bay b).state = .identifying then
        (if s.lineStuck = true then none else some (s.now + 10000)) else (s.bay b).identDeadline) ∧
      (s.cmn.hold = false →
        t.fal.effective = if s.fal.meterSilent = true then s.fal.budget.blind else s.fal.budget.feeder) ∧
      (s.cmn.hold = true → t.fal.effective = 0) ∧ TablesKept s t ∧ ListsKept s t ∧ t.rdc = s.rdc ∧ t.cmn = s.cmn ∧
      t.dlp = { s.dlp with rx := rest, upper := s.dlp.upper ++ [answerFrame f .ok []] }

/-- STOP_SERVICE, accepted, ends every waiting request, moves the bays to IDENTIFYING without a deadline, takes every grant
away and asks for a STOP (R24, R51, R93, R161). -/
def Obligations.StopServiceEntersLoading : Prop :=
  ∀ (s : State) (f : DepotFrame) (rest : List DepotFrame), Asked s 0x0D f rest → f.payload.length = 0 →
    s.inService = true → (∀ b, (s.bay b).state ≠ .releasing) →
    ∃ t, exec .stopService s = .next t ∧ t.mgu = { s.mgu with service := .loading } ∧ t.rot.waiting = [] ∧
      (∀ b, (t.bay b).state = if (s.bay b).state.stopsToIdentifying then .identifying else (s.bay b).state) ∧
      (∀ b, (t.bay b).packId = (s.bay b).packId ∧ (t.bay b).latest = (s.bay b).latest ∧
        (t.bay b).identDeadline = none ∧ (t.bay b).demand = 0 ∧ (t.bay b).applied = 0 ∧ (t.bay b).granted = 0 ∧
        (t.bay b).urgency = none) ∧
      (∀ b, (s.bay b).state.stopsToIdentifying = true →
        (t.bay b).session = none ∧ (t.bay b).reason = none ∧ (t.bay b).readyTime = none ∧
        (t.bay b).entryTime = s.now) ∧
      (∀ b, (t.bay b).setpoint.mode ≠ .on) ∧ t.fal.effective = 0 ∧ t.fal.headroom = 0 ∧ Queued t .stop ∧
      TablesKept s t

/-- RESTART is answered OK and becomes pending; when that answer has left the link, the tables and settings stay and everything
else takes its RESTART value (R141, R162, R163). The queue of commands and the count of free values, the model's own, stay: the
model's choice, log entry 5. -/
def Obligations.RestartTakesEffectWhenItsAnswerLeaves : Prop :=
  (∀ (s : State) (f : DepotFrame) (rest : List DepotFrame), Asked s 0x14 f rest → f.payload.length = 0 → Room s →
    exec .restart s = .next (queuedUpper
      { tookRequest s rest with mgu := { s.mgu with restartPending := true } } (answerFrame f .ok []))) ∧
  ∀ (s : State) (tag : Nat) (bytes : List Byte) (frames : List DepotFrame), s.mgu.restartPending = true →
    s.dlp.upper = ⟨0x54, tag, [0#8]⟩ :: frames → s.dlp.sending = some ⟨.upper, bytes⟩ →
    ∃ t, exec .depotTxFrameDone s = .next t ∧ t.mgu = ⟨.loading, 0, false⟩ ∧ TablesKept s t ∧
      (∀ b, (t.bay b).state = (if (s.config.get b).enabled then .empty else .disabled) ∧ (t.bay b).session = none ∧
        (t.bay b).packId = none ∧ (t.bay b).latch = none ∧ (t.bay b).setpoint = Setpoint.allOff ∧
        (t.bay b).applied = 0 ∧ t.release b = none ∧
        t.blc.refresh.get b = if (s.config.get b).enabled then some 0 else none) ∧
      t.rot.ready = [] ∧ t.rot.waiting = [] ∧ t.blc.tx = [⟨.stop, 0, false, false, 0⟩] ∧ t.blc.rx = [] ∧
      t.blc.line = .busy ∧ t.blc.sending = none ∧ t.dlp.rx = [] ∧ t.dlp.upper = [] ∧ t.dlp.lower = [] ∧
      t.dlp.sending = none ∧ t.dlp.sendCount = 0 ∧ t.dlp.receiver = .awaitIdle ∧ t.fal.meterArrival = none ∧
      t.fal.meterSilent = false ∧ t.fal.feederOver = false ∧ t.fal.overRun = 0 ∧ t.cmn.hold = false ∧
      t.cmn.trip = false ∧ (∀ k, t.cmn.depot.get k = ⟨false, false⟩) ∧
      (∀ b k, (t.cmn.bays.get b).get k = ⟨false, false⟩) ∧ t.rdc = Rdc.reset ∧
      t.pending = s.pending ∧ t.freeCount = s.freeCount

/-! ## Releases -/

/-- RELEASE_REQUEST serves the ready head of its type at once, with its UNLATCH asked for, or joins the back of the waiting
list (R77, R81). CANCEL_RELEASE of a waiting tag takes the entry off the list, sends CANCELLED, asks
for a round and answers OK; a tag of a release in progress is answered WRONG_STATE and any other tag UNKNOWN_TAG (R78). -/
def Obligations.ReleaseRequestServesOrQueues : Prop :=
  (∀ (s : State) (f : DepotFrame) (rest : List DepotFrame) (k : Fin 8), Asked s 0x0E f rest → f.payload.length = 2 →
    s.inService = true → finOf 8 (field f.payload 0 1) = some k → s.tagWaiting f.tag = false →
    s.tagReleasing f.tag = false →
    (∀ b, s.readyHead k = some b → (s.bay b).state = .ready → s.placeFree = true →
      ∃ t, exec .releaseRequest s = .next t ∧ (t.bay b).state = .releasing ∧ (t.bay b).origin = some .ready ∧
        (t.bay b).packId = (s.bay b).packId ∧ (t.bay b).session = (s.bay b).session ∧
        t.release b = some ⟨.dispatch, some ⟨f.tag, k, field f.payload 1 1⟩, .ready, .unlatching,
          if s.lineStuck = true then none else some (s.now + 5000)⟩ ∧
        t.rot.ready = s.rot.ready.filter (fun c => c != b) ∧ t.rot.waiting = s.rot.waiting ∧
        Queued t (.latchCmd b .unlatch) ∧ OtherBaysKept b s t ∧ TablesKept s t) ∧
    (s.readyHead k = none → field f.payload 1 1 ≠ 0 → s.rot.waiting.length < 8 →
      ∃ t, exec .releaseRequest s = .next t ∧
        t.rot = { s.rot with waiting := s.rot.waiting ++ [⟨⟨f.tag, k, field f.payload 1 1⟩, s.now⟩] } ∧
        BaysKept s t ∧ TablesKept s t ∧ ServiceKept s t)) ∧
  ∀ (s : State) (f : DepotFrame) (rest : List DepotFrame), Asked s 0x0F f rest → f.payload.length = 2 →
    (s.tagWaiting (field f.payload 0 2) = true →
      ∃ t, exec .cancelRelease s = .next t ∧
        t.rot = { s.rot with waiting := s.rot.waiting.filter fun e => e.request.tag != field f.payload 0 2 } ∧
        BaysKept s t ∧ TablesKept s t ∧ ServiceKept s t ∧
        (s.dlp.queued + 2 ≤ 32 →
          t = queuedUpper ({ s with
            rot := t.rot
            dlp := { s.dlp with
              rx := rest
              upper := s.dlp.upper ++
                [⟨0x90, s.dlp.sendCount, [1#8] ++ be 2 (field f.payload 0 2) ++ [7#8, 0#8] ++ be 4 0⟩]
              sendCount := (s.dlp.sendCount + 1) % 65536 } } : State).askRound (answerFrame f .ok []))) ∧
    (s.tagWaiting (field f.payload 0 2) = false → Room s →
      exec .cancelRelease s = .next (queuedUpper (tookRequest s rest)
        (answerFrame f (if s.tagReleasing (field f.payload 0 2) = true then .wrongState else .unknownTag) [])))

/-- RELEASE_BAY starts a maintenance release of a bay in READY, QUARANTINE or FAULT, with its UNLATCH asked for (R79, R81). -/
def Obligations.ReleaseBayStartsMaintenanceRelease : Prop :=
  ∀ (s : State) (f : DepotFrame) (rest : List DepotFrame) (b : Bay) (o : Origin), Asked s 0x10 f rest →
    f.payload.length = 1 → bayOf (field f.payload 0 1) = some b → s.inService = true → (s.bay b).state = o.state →
    s.placeFree = true →
    ∃ t, exec .releaseBay s = .next t ∧ (t.bay b).state = .releasing ∧ (t.bay b).origin = some o ∧
      (t.bay b).packId = (s.bay b).packId ∧ (t.bay b).setpoint = Setpoint.allOff ∧
      t.release b = some ⟨.maintenance, none, o, .unlatching,
        if s.lineStuck = true then none else some (s.now + 5000)⟩ ∧
      b ∉ t.rot.ready ∧ t.rot.waiting = s.rot.waiting ∧ Queued t (.latchCmd b .unlatch) ∧
      OtherBaysKept b s t ∧ TablesKept s t

/-- The deadlines of a release (R83 to R85): the end of UNLATCHING fails at the latch into FAULT, the end of the pickup time
asks for RELATCH and moves to RELATCHING without the tag, and the end of RELATCHING faults the bay. A failed MAINTENANCE release
has its LATCH_FAILED notice. The request of a failed DISPATCH release starts the release of the ready head of its type, or ends,
or goes back to the front of the waiting list (R88). -/
def Obligations.ReleaseDeadlinesEndTheirPhases : Prop :=
  ∀ (s : State) (b : Bay) (r : ReleaseRecord), s.release b = some r → (s.bay b).state = .releasing → Passed s r.deadline →
    (r.phase = .unlatching → r.kind = .maintenance → s.placeFree = true →
      ∃ t, exec (.unlatchDeadline b) s = .next t ∧ Faulted s t b .latch ∧ t.release b = none ∧
        Queued t (.latchCmd b .relatch)) ∧
    (r.phase = .unlatching →
      ∃ t, exec (.unlatchDeadline b) s = .next t ∧ Latched t (.bay .latch b) ∧ ReleaseFailed s t b r .latchFailed) ∧
    (r.phase = .awaitingPickup → s.placeFree = true →
      ∃ t, exec (.pickupDeadline b) s = .next t ∧
        t.release b = some { r with
          request := none
          phase := .relatching
          deadline := if s.lineStuck = true then none else some (s.now + 5000) } ∧
        BaysKept s t ∧ TablesKept s t ∧ Queued t (.latchCmd b .relatch) ∧
        (s.dlp.queued + 1 ≤ 32 → t.dlp.upper = s.dlp.upper ++
          [⟨0x90, s.dlp.sendCount, releasePayload (r.request.map (·.tag)) .notCollected (some b) (s.bay b).packId⟩])) ∧
    (r.phase = .relatching →
      ∃ t, exec (.relatchDeadline b) s = .next t ∧ Faulted s t b .latch ∧ t.release b = none)

/-- WAIT_LIMIT_EXPIRY (R76): an entry whose limit of 1 to 254 minutes has passed leaves the list with an EXPIRED notice, and a
round is asked for, on hold and while LINE_STUCK is active too; an entry of limit 255 does not expire. -/
def Obligations.WaitingEntriesExpire : Prop :=
  ∀ (s : State) (tag : Nat),
    (∀ e ∈ s.rot.waiting, e.request.tag = tag → s.inService = true → 1 ≤ e.request.limit → e.request.limit ≤ 254 →
      e.queued + e.request.limit * 60000 ≤ s.now →
      exec (.waitLimitExpiry tag) s = .next
        (({ s with rot := { s.rot with waiting := s.rot.waiting.filter fun x => x.request.tag != tag } } :
          State).notice 0x90 ([1#8] ++ be 2 tag ++ [6#8, 0#8] ++ be 4 0)).askRound) ∧
    (∀ payload, Room s → s.notice 0x90 payload = { s with dlp := { s.dlp with
      upper := s.dlp.upper ++ [⟨0x90, s.dlp.sendCount, payload⟩]
      sendCount := (s.dlp.sendCount + 1) % 65536 } }) ∧
    ((∀ e ∈ s.rot.waiting, e.request.tag = tag →
      e.request.limit = 255 ∨ s.now < e.queued + e.request.limit * 60000) →
      exec (.waitLimitExpiry tag) s = .next s)

/-! ## Bays by request -/

/-- BAY_RESET, carried out, gives the bay its BAY_RESET values, clears its decoder state and its conditions that are not
active, and moves it to IDENTIFYING or EMPTY by its stored latch and presence (R25, R26, R164). -/
def Obligations.BayResetRebuildsBay : Prop :=
  ∀ (s : State) (f : DepotFrame) (rest : List DepotFrame) (b : Bay), Asked s 0x11 f rest → f.payload.length = 1 →
    bayOf (field f.payload 0 1) = some b → (s.bay b).state ≠ .releasing → (s.bay b).state ≠ .disabled →
    ∃ t, exec .bayReset s = .next t ∧
      (t.bay b).state = (if (s.bay b).latch = some .closed ∧ (s.bay b).presence = some .present
        then .identifying else .empty) ∧
      (t.bay b).packId = none ∧ (t.bay b).session = none ∧ (t.bay b).reason = none ∧ (t.bay b).latest = none ∧
      (t.bay b).readyTime = none ∧ (t.bay b).noData = false ∧ (t.bay b).frozen = false ∧
      (t.bay b).escalation = none ∧ (t.bay b).check = none ∧ (t.bay b).checkDeadline = none ∧
      (t.bay b).setpoint = Setpoint.allOff ∧ (t.bay b).applied = 0 ∧ (t.bay b).granted = 0 ∧
      (t.bay b).urgency = none ∧ (t.bay b).stage = (s.bay b).stage ∧ (t.bay b).latch = (s.bay b).latch ∧
      (t.bay b).presence = (s.bay b).presence ∧ (t.bay b).entryTime = s.now ∧
      t.rdc.assembly.get b = none ∧ t.rdc.alive.get b = ⟨none, 0⟩ ∧
      (∀ k, ((s.cmn.bays.get b).get k).active = false → ((t.cmn.bays.get b).get k).latched = false) ∧
      OtherBaysKept b s t ∧ TablesKept s t ∧ t.mgu = s.mgu

/-- ACK_CONDITIONS clears the latched flag of each named condition that is not active, in its scope alone, and recomputes TRIP
(R170, R172). -/
def Obligations.AckConditionsClearsInactive : Prop :=
  ∀ (s : State) (f : DepotFrame) (rest : List DepotFrame), Asked s 0x12 f rest → f.payload.length = 3 → Room s →
    (field f.payload 0 1 = 0 → field f.payload 1 2 < 1024 →
      ∃ t, exec .ackConditions s = .next t ∧
        (∀ k, (t.cmn.depot.get k).active = (s.cmn.depot.get k).active ∧
          (t.cmn.depot.get k).latched = ((s.cmn.depot.get k).latched &&
            (!(field f.payload 1 2).testBit k.val || (s.cmn.depot.get k).active))) ∧
        t.cmn = { s.cmn with depot := t.cmn.depot, trip := t.cmn.tripRule } ∧
        t = queuedUpper { tookRequest s rest with cmn := t.cmn } (answerFrame f .ok (be 2 (bitsOf t.cmn.latchedDepot)))) ∧
    (∀ b, bayOf (field f.payload 0 1) = some b → field f.payload 1 2 < 8192 →
      ∃ t, exec .ackConditions s = .next t ∧
        (∀ k, ((t.cmn.bays.get b).get k).active = ((s.cmn.bays.get b).get k).active ∧
          ((t.cmn.bays.get b).get k).latched = (((s.cmn.bays.get b).get k).latched &&
            (!(field f.payload 1 2).testBit k.val || ((s.cmn.bays.get b).get k).active))) ∧
        (∀ c, c ≠ b → t.cmn.bays.get c = s.cmn.bays.get c) ∧
        t.cmn = { s.cmn with bays := t.cmn.bays, trip := t.cmn.tripRule } ∧
        t = queuedUpper { tookRequest s rest with cmn := t.cmn } (answerFrame f .ok (be 2 (bitsOf (t.cmn.latchedBay b)))))

/-- RESUME leaves hold when no latched condition is of a kind selected for hold: the flag and the origin set are cleared, the
budget returns and the setpoints are evaluated, a round runs in service (R52), and HOLD left stands ahead of the answer (R174). -/
def Obligations.ResumeLeavesHold : Prop :=
  ∀ (s : State) (f : DepotFrame) (rest : List DepotFrame), Asked s 0x13 f rest → f.payload.length = 0 →
    s.cmn.hold = true → s.cmn.anyLatched s.cmn.map.hold = false → s.dlp.queued + 2 ≤ 32 →
    ∃ t u, exec .resume s = .next t ∧
      u = ({ tookRequest s rest with
        cmn := { s.cmn with
          hold := false
          originDepot := Table.replicate 10 false
          originBays := Table.replicate 16 (Table.replicate 13 false) } }.recomputeBudget.evalAllSetpoints).askRound ∧
      t = { u with dlp := { s.dlp with
        rx := rest
        upper := s.dlp.upper ++ [⟨0x92, s.dlp.sendCount, holdPayload 1 t.cmn⟩, answerFrame f .ok []]
        sendCount := (s.dlp.sendCount + 1) % 65536 } } ∧
      t.cmn.hold = false ∧ (∀ k, t.cmn.originDepot.get k = false) ∧
      (∀ b k, (t.cmn.originBays.get b).get k = false) ∧
      (∀ id, t.flags id = s.flags id) ∧ t.cmn.trip = s.cmn.trip ∧
      t.fal.effective = (if s.inService = false then 0
        else if s.fal.meterSilent = true then s.fal.budget.blind else s.fal.budget.feeder) ∧
      (s.inService = true → ∀ b, (t.bay b).applied ≤ (s.bay b).applied + s.fal.budget.ramp) ∧
      BaysKept s t ∧ TablesKept s t ∧ ServiceKept s t ∧ ListsKept s t ∧
      t.dlp.upper = s.dlp.upper ++ [⟨0x92, s.dlp.sendCount, holdPayload 1 t.cmn⟩, answerFrame f .ok []]

/-! ## The Depot Link -/

/-- The characters of a frame of R136, received one after another after an idle, put that frame in the receive queue (R135,
R136, R138): the first begins it, each further one joins it, and the last completes it. -/
def Obligations.DepotFrameIsReceivedAsSent : Prop :=
  ∀ (s : State) (g : DepotFrame), g.kind < 256 → g.tag < 65536 → g.payload.length ≤ 56 → s.dlp.rx.length < 8 →
    (∀ c cs, g.bytes = c :: cs → s.dlp.receiver = .ready →
      exec (.depotRxCharacter c) s = .next { s with dlp := { s.dlp with receiver := .inFrame [c] } }) ∧
    (∀ got c more, g.bytes = got ++ c :: more → got ≠ [] → more ≠ [] → s.dlp.receiver = .inFrame got →
      exec (.depotRxCharacter c) s = .next { s with dlp := { s.dlp with receiver := .inFrame (got ++ [c]) } }) ∧
    (∀ got c, g.bytes = got ++ [c] → s.dlp.receiver = .inFrame got →
      exec (.depotFrameComplete c) s =
        .next { s with dlp := { s.dlp with receiver := .awaitIdle, rx := s.dlp.rx ++ [g] } })

/-- A frame in reception that the link goes idle in, a character with its stop bit at 0, and a length byte above 56 each discard
the frame and latch DEPOT_RX_ERROR; an idle between frames readies the receiver (R135). -/
def Obligations.MalformedDepotFramesAreDiscarded : Prop :=
  ∀ s : State,
    (∀ cs, s.dlp.receiver = .inFrame cs →
      (∃ t, exec .depotLinkIdle s = .next t ∧ t.dlp.receiver = .ready ∧ t.dlp.rx = s.dlp.rx ∧
        Latched t (.depot .depotRxError) ∧ BaysKept s t ∧ TablesKept s t ∧ ServiceKept s t ∧ ListsKept s t) ∧
      (∃ t, exec .depotRxFramingFault s = .next t ∧ t.dlp.receiver = .awaitIdle ∧ t.dlp.rx = s.dlp.rx ∧
        Latched t (.depot .depotRxError) ∧ BaysKept s t ∧ TablesKept s t ∧ ServiceKept s t ∧ ListsKept s t)) ∧
    (∀ c : Byte, 56 < c.toNat → s.dlp.receiver = .ready →
      ∃ t, exec (.depotRxBadLength c) s = .next t ∧ t.dlp.receiver = .awaitIdle ∧ t.dlp.rx = s.dlp.rx ∧
        Latched t (.depot .depotRxError) ∧ BaysKept s t ∧ TablesKept s t ∧ ServiceKept s t ∧ ListsKept s t) ∧
    (s.dlp.receiver = .awaitIdle →
      exec .depotLinkIdle s = .next { s with dlp := { s.dlp with receiver := .ready } })

/-- The transmitter begins the oldest frame of the upper group, and of the lower group when the upper holds none; a frame whose
last character has left leaves its group, and the next may start after 3 ms more of idle (R135, R141). The idle left is held in
milliseconds (log entry 16), and a pair whose first frame has left keeps the mark that its sending has begun (log entry 17).
That the upper group goes first also when such a pair waits at the head of the lower group, where R147 says that the second
frame follows at once, is log entry 36. -/
def Obligations.DepotTransmitterSendsUpperGroupFirst : Prop :=
  ∀ s : State,
    (∀ g gs, s.dlp.sending = none → s.dlp.idleLeft = 0 → s.dlp.upper = g :: gs →
      exec .depotTxFrameStart s = .next { s with dlp := { s.dlp with sending := some ⟨.upper, g.bytes⟩ } }) ∧
    (∀ i is, s.dlp.sending = none → s.dlp.idleLeft = 0 → s.dlp.upper = [] → s.dlp.lower = i :: is →
      exec .depotTxFrameStart s = .next { s with dlp := { s.dlp with
        sending := some ⟨.lower, i.first.bytes⟩, lower := { i with begun := true } :: is } }) ∧
    (∀ bytes g gs, s.mgu.restartPending = false → s.dlp.sending = some ⟨.upper, bytes⟩ → s.dlp.upper = g :: gs →
      exec .depotTxFrameDone s =
        .next { s with dlp := { s.dlp with sending := none, upper := gs, idleLeft := 3 } }) ∧
    (∀ bytes i is, s.dlp.sending = some ⟨.lower, bytes⟩ → s.dlp.lower = i :: is →
      exec .depotTxFrameDone s = .next { s with dlp := { s.dlp with
        sending := none
        idleLeft := 3
        lower := match i.second with
          | none => is
          | some g => { i with first := g, second := none } :: is } })

/-- The admission of an answer or a notice to a full queue removes the most recently queued relay item that is not being sent,
with the on-change memory it had set and no other, or else, with no relay item or with one alone that is being sent, discards the
frame (R142, R146). That a pair whose first frame has left, and whose second waits, counts as being sent, so that it is kept and
the frame discarded, is log entry 17. -/
def Obligations.FullQueueShedsNewestRelay : Prop :=
  ∀ (d : Dlp) (g : DepotFrame), 32 ≤ d.queued →
    (∀ older item, d.lower = older ++ [item] → item.begun = false →
      (d.placeUpper g).2 = some .relayShed ∧ (d.placeUpper g).1.upper = d.upper ++ [g] ∧
      (d.placeUpper g).1.lower = older ∧ (d.placeUpper g).1.queued = d.queued + 1 - item.size ∧
      (∀ b, (d.placeUpper g).1.memos.telemetry.get b =
          (if item.memo = some (.telemetry b) then none else d.memos.telemetry.get b) ∧
        (d.placeUpper g).1.memos.stage.get b = (if item.memo = some (.stage b) then none else d.memos.stage.get b) ∧
        (d.placeUpper g).1.memos.latch.get b = (if item.memo = some (.latch b) then none else d.memos.latch.get b)) ∧
      (d.placeUpper g).1.memos.meter = (if item.memo = some .meter then none else d.memos.meter) ∧
      (d.placeUpper g).1 = { d with upper := d.upper ++ [g], lower := older, memos := (d.placeUpper g).1.memos }) ∧
    ((d.lower = [] ∨ ∃ item, d.lower = [item] ∧ item.begun = true) →
      d.placeUpper g = (d, some .depotTxOverflow))

/-! ## The Bay Line -/

/-- BAY_LINE_TX_START puts on the idle line the frame of the most urgent waiting entry, by kind, then queued time, then bay, with
its content read at the start (R121, R122, R127). The driver enable goes on with it: the model's choice, log entry 15. -/
def Obligations.LineStartTakesMostUrgentEntry : Prop :=
  ∀ s : State, s.blc.line = .idle → (∃ e ∈ s.blc.tx, e.onLine = false) →
    ∃ before e behind t, s.blc.tx = before ++ e :: behind ∧ e.onLine = false ∧
      (∀ x ∈ s.blc.tx, x.onLine = false → x.before e = false) ∧
      exec .bayLineTxStart s = .next t ∧
      t = { s with blc := { s.blc with
        tx := before ++ { e with onLine := true } :: behind
        line := .sending
        sending := some (s.frameOf e.what)
        driverEnable := true } } ∧
      (∀ b, e.what = .drive b → s.frameOf e.what = lineFrameBytes 1 (bayNumber b)
        (be 1 (s.bay b).setpoint.mode.code ++ be 2 (s.bay b).setpoint.current ++ be 2 (s.bay b).setpoint.limit))

/-- BAY_LINE_TX_COMPLETE: the entry leaves, or stays with its queued time now when it was renewed; the error run is 0, and the
refresh of an enabled bay is due in 1,000 ms after its drive frame (R128, R129). -/
def Obligations.LineCompleteRemovesOrRenewsEntry : Prop :=
  ∀ (s : State) (before behind : List TxEntry) (e : TxEntry), OnLine s before behind e →
    ∃ t, exec .bayLineTxComplete s = .next t ∧
      t.blc.tx = before ++ (if e.renewed then [{ e with onLine := false, renewed := false, queued := s.now }] else []) ++
        behind ∧
      t.blc.errorRun = 0 ∧ t.blc.sending = none ∧ t.blc.rx = s.blc.rx ∧
      (∀ b, t.blc.refresh.get b = if e.what = .drive b ∧ (s.config.get b).enabled = true then some (s.now + 1000)
        else s.blc.refresh.get b) ∧
      { t with blc := s.blc } = s

/-- ARBITRATION_LOST leaves the entry waiting in its place, with its loss count increased for LATCH_CMD and SERVICE below 16
losses. At 16 the entry leaves; of a SERVICE entry nobody is told; a LATCH_CMD entry of a bay without a release record changes
nothing more, and with one the release has failed at the latch: by R85 in RELATCHING and else by R83, the phases that those rules
do not name being log entry 35 (R83, R85, R88, R123, R128). TRANSMIT_ERROR leaves the entry waiting in its place and increases
the error run, which starts a recovery at 8 (R128, R131). That the line state stays SENDING after it is log entry 13, and that
the driver enable goes off is log entry 15. -/
def Obligations.InterruptedLineFrameKeepsItsPlace : Prop :=
  (∀ (s : State) (before behind : List TxEntry) (e : TxEntry), OnLine s before behind e →
    ((e.limited = false ∨ e.losses + 1 < 16) →
      exec .arbitrationLost s = .next { s with blc := { s.blc with
        tx := before ++ { e with
          onLine := false, renewed := false, losses := if e.limited then e.losses + 1 else e.losses } :: behind
        line := .busy
        sending := none
        driverEnable := false } }) ∧
    (∀ b p, e.what = .service b p → 16 ≤ e.losses + 1 →
      exec .arbitrationLost s = .next { s with blc := { s.blc with
        tx := before ++ behind, line := .busy, sending := none, driverEnable := false } }) ∧
    (∀ b c u, e.what = .latchCmd b c → 16 ≤ e.losses + 1 → u = { s with blc := { s.blc with
        tx := before ++ behind, line := .busy, sending := none, driverEnable := false } } →
      (s.release b = none → exec .arbitrationLost s = .next u) ∧
      (∀ r, s.release b = some r → (s.bay b).state = .releasing →
        ∃ t, exec .arbitrationLost s = .next t ∧ Latched t (.bay .latch b) ∧ t.blc.line = .busy ∧
          (r.phase = .relatching → Faulted s t b .latch ∧ t.release b = none ∧ t.rot.waiting = s.rot.waiting) ∧
          (r.phase ≠ .relatching → ReleaseFailed u t b r .latchFailed)))) ∧
  ∀ (s : State) (before behind : List TxEntry) (e : TxEntry), OnLine s before behind e →
    ∃ t, exec .transmitError s = .next t ∧ { t with blc := s.blc } = s ∧ t.blc.sending = none ∧
      t.blc.driverEnable = false ∧ t.blc.rx = s.blc.rx ∧ t.blc.refresh = s.blc.refresh ∧
      (s.blc.errorRun + 1 < 8 → t.blc.errorRun = s.blc.errorRun + 1 ∧ t.blc.line = .sending ∧
        t.blc.tx = before ++ { e with onLine := false, renewed := false } :: behind) ∧
      (8 ≤ s.blc.errorRun + 1 → t.blc.errorRun = 0 ∧ t.blc.line = .recovery ∧ t.blc.recovery = some ⟨1, s.now⟩ ∧
        t.blc.tx.map (·.what) = s.blc.tx.map (·.what) ∧ ∀ x ∈ t.blc.tx, x.onLine = false)

/-- A sound frame of another station for destination 0 or 30 joins the receive queue with its stamp, exactly as sent, and the
line is idle; one for another station is dropped; a full queue latches LINE_RX_OVERRUN. A frame with a framing fault, of a wrong
length or with a wrong check byte is discarded with LINE_RX_ERROR latched (R120, R122, R130). -/
def Obligations.LineFramesAreReceivedOrDiscarded : Prop :=
  (∀ (s : State) (header destination : Byte) (payload : List Byte), payload.length ≤ 16 →
    (s.blc.line = .idle ∨ s.blc.line = .busy) →
    ((destination = 0#8 ∨ destination = 30#8) → s.blc.rx.length < 16 →
      exec (.bayLineFrameEnd (heardFrame header destination payload) false) s = .next { s with blc := { s.blc with
        line := .idle, rx := s.blc.rx ++ [⟨header, payload, s.now⟩] } }) ∧
    (destination ≠ 0#8 → destination ≠ 30#8 →
      exec (.bayLineFrameEnd (heardFrame header destination payload) false) s =
        .next { s with blc := { s.blc with line := .idle } }) ∧
    ((destination = 0#8 ∨ destination = 30#8) → 16 ≤ s.blc.rx.length →
      ∃ t, exec (.bayLineFrameEnd (heardFrame header destination payload) false) s = .next t ∧ t.blc.rx = s.blc.rx ∧
        t.blc.line = .idle ∧ Latched t (.depot .lineRxOverrun) ∧ BaysKept s t ∧ TablesKept s t ∧ ServiceKept s t)) ∧
  ∀ (s : State) (chars : List Byte) (framingFault : Bool), (s.blc.line = .idle ∨ s.blc.line = .busy) →
    (framingFault = true ∨ chars.length < 4 ∨ 16 < field chars 2 1 ∨ chars.length ≠ 4 + field chars 2 1 ∨
      (chars.getLast?).getD 0#8 ≠ crc8 (chars.take (chars.length - 1))) →
    ∃ t, exec (.bayLineFrameEnd chars framingFault) s = .next t ∧ t.blc.rx = s.blc.rx ∧ t.blc.line = .idle ∧
      Latched t (.depot .lineRxError) ∧ BaysKept s t ∧ TablesKept s t ∧ ServiceKept s t ∧ ListsKept s t

/-- LINE_IDLE_FOUND ends BUSY, START_BIT_RECOGNISED ends IDLE, and REFRESH_DUE asks once for a drive entry of an enabled bay
whose due time has passed (R120, R125, R129, R131). -/
def Obligations.IdleStartBitAndRefreshAct : Prop :=
  ∀ s : State,
    (s.blc.line = .busy → exec .lineIdleFound s = .next { s with blc := { s.blc with line := .idle } }) ∧
    (s.blc.line = .idle → exec .startBitRecognised s = .next { s with blc := { s.blc with line := .busy } }) ∧
    (∀ b, (s.config.get b).enabled = true → s.blc.refreshAsked.get b = false → Passed s (s.blc.refresh.get b) →
      ∃ t, exec (.refreshDue b) s = .next t ∧ Queued t (.drive b) ∧ exec (.refreshDue b) t = .next t ∧
        { t with blc := s.blc } = s ∧ t.blc.refresh = s.blc.refresh ∧ t.blc.line = s.blc.line ∧
        ((∀ e ∈ s.blc.tx, e.what ≠ .drive b) →
          t.blc.tx = s.blc.tx ++ [⟨.drive b, s.now, false, false, 0⟩]) ∧
        ((∃ e ∈ s.blc.tx, e.what = .drive b) →
          t.blc.tx = s.blc.tx.map fun e => if e.what = .drive b ∧ e.onLine = true then { e with renewed := true } else e))

/-- A recovery attempt (R131, R132): it begins with pulse 1, the queue kept; a recessive reading ends it with the line BUSY, a
dominant one sends the next pulse, and the next attempt of a stuck line starts when it is due. -/
def Obligations.RecoveryAttemptsPulseTheLine : Prop :=
  ∀ s : State,
    ((s.blc.line = .idle ∨ s.blc.line = .busy ∨ s.blc.line = .sending) →
      ∃ t, exec .lineDominantTimeout s = .next t ∧ { t with blc := s.blc } = s ∧ t.blc.line = .recovery ∧
        t.blc.recovery = some ⟨1, s.now⟩ ∧ t.blc.errorRun = 0 ∧ t.blc.sending = none ∧ t.blc.driverEnable = false ∧
        t.blc.tx.map (·.what) = s.blc.tx.map (·.what) ∧ t.blc.rx = s.blc.rx) ∧
    (∀ r, s.blc.line = .recovery → s.blc.recovery = some r → r.pulseAt + 20 ≤ s.now →
      (s.lineStuck = false → exec (.lrsPulseReading false) s = .next { s with blc := { s.blc with
        line := .busy, recovery := none, nextAttempt := none } }) ∧
      (r.pulses < 9 → exec (.lrsPulseReading true) s =
        .next { s with blc := { s.blc with recovery := some ⟨r.pulses + 1, s.now⟩ } })) ∧
    (s.blc.line = .stuck → Passed s s.blc.nextAttempt →
      ∃ t, exec .nextRecoveryAttempt s = .next t ∧ { t with blc := s.blc } = s ∧ t.blc.line = .recovery ∧
        t.blc.recovery = some ⟨1, s.now⟩ ∧ t.blc.nextAttempt = none)

/-- A failed attempt makes LINE_STUCK active and suspends every deadline; a success or a sound frame in STUCK ends it and sets
every deadline anew in full (R6, R13, R21, R86, R132, R133). -/
def Obligations.StuckLineSuspendsAndRestartsDeadlines : Prop :=
  ∀ s : State,
    (∀ r, s.blc.line = .recovery → s.blc.recovery = some r → r.pulseAt + 20 ≤ s.now → 9 ≤ r.pulses →
      s.lineStuck = false →
      ∃ t, exec (.lrsPulseReading true) s = .next t ∧ t.lineStuck = true ∧ t.blc.line = .stuck ∧
        t.blc.nextAttempt = some (s.now + 30000) ∧ TablesKept s t ∧
        ∀ b, (t.bay b).identDeadline = none ∧ (t.bay b).checkDeadline = none ∧ (t.bay b).escalation = none ∧
          (t.bay b).state = (s.bay b).state ∧ t.release b = (s.release b).map fun x => { x with deadline := none }) ∧
    (∀ r, s.blc.line = .recovery → s.blc.recovery = some r → r.pulseAt + 20 ≤ s.now → s.lineStuck = true →
      ∃ t, exec (.lrsPulseReading false) s = .next t ∧ t.lineStuck = false ∧ Latched t (.depot .lineStuck) =
          Latched s (.depot .lineStuck) ∧ t.blc.line = .busy ∧ t.blc.tx = s.blc.tx ∧
        ∀ b, ((s.bay b).state = .identifying → s.inService = true → (t.bay b).identDeadline = some (s.now + 10000)) ∧
          ((s.bay b).state = .checking → (t.bay b).checkDeadline = some (s.now + 5000) ∧
            (t.bay b).check = some ⟨0, 0⟩) ∧
          ((s.bay b).noData = true → (s.bay b).state.escalates = true → (t.bay b).escalation = some s.now) ∧
          t.release b = (s.release b).map fun x =>
            { x with deadline := some (s.now + if x.phase = .awaitingPickup then 120000 else 5000) }) ∧
    (∀ header payload, s.blc.line = .stuck → s.lineStuck = true → s.blc.rx.length < 16 → payload.length ≤ 16 →
      ∃ t, exec (.bayLineFrameEnd (heardFrame header 0#8 payload) false) s = .next t ∧ t.lineStuck = false ∧
        t.blc.line = .busy ∧ t.blc.nextAttempt = none ∧ t.blc.rx = s.blc.rx ++ [⟨header, payload, s.now⟩] ∧
        t.blc.tx = s.blc.tx ∧ Latched t (.depot .lineStuck) = Latched s (.depot .lineStuck) ∧
        ∀ b, ((s.bay b).state = .identifying → s.inService = true → (t.bay b).identDeadline = some (s.now + 10000)) ∧
          ((s.bay b).state = .checking → (t.bay b).checkDeadline = some (s.now + 5000) ∧
            (t.bay b).check = some ⟨0, 0⟩) ∧
          ((s.bay b).noData = true → (s.bay b).state.escalates = true → (t.bay b).escalation = some s.now) ∧
          (t.bay b).state = (s.bay b).state ∧
          t.release b = (s.release b).map fun x =>
            { x with deadline := some (s.now + if x.phase = .awaitingPickup then 120000 else 5000) })

/-! ## Dock reports -/

/-- A segment 0 of a bay that is not disabled, with 1 to 24 cell groups and the total that they need, begins an assembly, and a
group segment in time, in order and of the length that its place requires extends it (R106 to R108). -/
def Obligations.SegmentsAssembleARecord : Prop :=
  ∀ (s : State) (f : LineFrame) (rest : List LineFrame) (b : Bay), Heard s f rest →
    (s.frameUse f = .segment0 b → f.payload.length = 14 → 1 ≤ (segment0Record f.payload).groups →
      (segment0Record f.payload).groups ≤ 24 →
      (segment0Record f.payload).total = 1 + ((segment0Record f.payload).groups + 3) / 4 →
      exec .segment0 s = .next { tookLine s rest with
        rdc := { s.rdc with assembly := s.rdc.assembly.set b (some ⟨1, f.stamp, segment0Record f.payload⟩) } }) ∧
    (∀ x, s.frameUse f = .group b → s.rdc.assembly.get b = some x → f.payload.length = 9 → f.segmentIndex = x.expected →
      x.expected ≤ 6 → x.expected + 1 < x.part.total → f.stamp ≤ x.stamp + 40 →
      exec .groupSegment s = .next { tookLine s rest with
        rdc := { s.rdc with assembly := s.rdc.assembly.set b (some ⟨x.expected + 1, f.stamp,
          { x.part with cells := x.part.cells ++
            [field f.payload 1 2, field f.payload 3 2, field f.payload 5 2, field f.payload 7 2] }⟩) } }) ∧
    (∀ x, s.frameUse f = .group b → s.rdc.assembly.get b = some x → f.payload.length = 9 → f.segmentIndex ≤ 6 →
      (f.segmentIndex ≠ x.expected ∨ x.stamp + 40 < f.stamp) →
      exec .groupSegment s = .next { tookLine s rest with
        rdc := { s.rdc with assembly := s.rdc.assembly.set b none } })

/-- A complete record that is new and sound, of one segment or with its last group segment, is stored, clamped, as the latest
pack record in every state with a pack and in FAULT (R5, R6, R14, R18, R109, R111, R112, R115). In LOADING it does nothing more
to the bay but set the pack ID of a bay in IDENTIFYING that has none. In service a pack fault flag, another pack ID or an
overvoltage latches its condition and moves a bay with a pack to FAULT (R15), ending a release ABORTED (R87). Else, in
IDENTIFYING, the identity lookup quarantines the bay or begins a session (R6 to R8); TEMP_WAIT is left when the pack is cool and
warm enough (R11); CHECKING is left for TEMP_WAIT when it is not (R10); and QUARANTINE and RELEASING stay. -/
def Obligations.CompleteRecordIsClampedAndStored : Prop :=
  ∀ (s : State) (c : Instr) (f : LineFrame) (rest : List LineFrame) (b : Bay) (p q : PackRecord), Heard s f rest →
    Completes s c f b p → Fresh s b p → q = clampedRecord p →
    ∃ t, exec c s = .next t ∧ (t.bay b).frozen = false ∧ t.rdc.alive.get b = ⟨some p.alive, 0⟩ ∧
      t.rdc.assembly.get b = none ∧ t.mgu = s.mgu ∧ t.profiles = s.profiles ∧ t.config = s.config ∧
      ((s.bay b).state ≠ .empty → (t.bay b).latest = some ⟨q, f.stamp⟩) ∧
      ((s.bay b).state = .empty → (t.bay b).latest = (s.bay b).latest ∧ (t.bay b).packId = (s.bay b).packId) ∧
      (s.inService = false ∨ (s.bay b).state = .empty ∨ (s.bay b).state = .fault →
        (t.bay b).state = (s.bay b).state ∧ (t.bay b).session = (s.bay b).session ∧
        ((s.bay b).state = .identifying → (t.bay b).packId = some ((s.bay b).packId.getD p.packId)) ∧
        OtherBaysKept b s t ∧ TablesKept s t ∧ t.rot = s.rot) ∧
      (s.inService = true → (s.bay b).state.withPack = true → ¬ RecordSafe s b p →
        (t.bay b).state = .fault ∧ (t.bay b).session = none ∧ (t.bay b).setpoint = Setpoint.allOff ∧
        TablesKept s t ∧ (p.faultFlag = true → Latched t (.bay .packFault b)) ∧
        (∀ id ∈ (s.bay b).packId, id ≠ p.packId → Latched t (.bay .identity b)) ∧
        ((s.bay b).identified = true → ∀ h ∈ s.bayHead b, (h.packOv < p.voltage ∨ ∃ v ∈ p.cells, h.cellOv < v) →
          Latched t (.bay .overVolt b)) ∧
        ((s.bay b).state ≠ .releasing → OtherBaysKept b s t ∧ t.rot.waiting = s.rot.waiting) ∧
        (∀ r, (s.bay b).state = .releasing → s.release b = some r → r.phase ≠ .relatching →
          ReleaseFailed s t b r .aborted)) ∧
      (s.inService = true → RecordSafe s b p →
        ((s.bay b).state = .identifying → LookedUp s t b p.packId q) ∧
        (∀ h x, s.bayHead b = some h → (s.bay b).session = some x → (s.bay b).state = .tempWait →
          (q.highest ≤ h.resumeLimit → h.coldLimit ≤ q.lowest →
            (t.bay b).state = (if x.checkDone = true then .charging else .checking)) ∧
          (h.resumeLimit < q.highest ∨ q.lowest < h.coldLimit → (t.bay b).state = .tempWait) ∧
          (t.bay b).session = some x ∧
          (t.flags (.bay .overTemp b)).active =
            (if q.highest ≤ h.resumeLimit then false else (s.flags (.bay .overTemp b)).active) ∧
          OtherBaysKept b s t ∧ TablesKept s t) ∧
        (∀ h x, s.bayHead b = some h → (s.bay b).session = some x → (s.bay b).state = .checking →
          WarmedOrCold s t b h q ∧
          (h.abortLimit ≤ q.highest ∨ q.lowest < h.coldLimit →
            (t.bay b).session = some { x with taperRun := 0, endRun := 0 }) ∧
          (q.highest < h.abortLimit → h.coldLimit ≤ q.lowest →
            (t.bay b).state = .checking ∧ (t.bay b).session = some x ∧ (t.bay b).check = (s.bay b).check) ∧
          OtherBaysKept b s t ∧ TablesKept s t) ∧
        ((s.bay b).state = .quarantine ∨ (s.bay b).state = .releasing →
          (t.bay b).state = (s.bay b).state ∧ (t.bay b).session = (s.bay b).session ∧
          (t.bay b).reason = (s.bay b).reason ∧ t.rot = s.rot ∧ OtherBaysKept b s t ∧ TablesKept s t))

/-- The charge of an applied record: the clamped interval's charge and the carried remainder, in whole dA.s, with the quota
counted down to 0 (R37, R38). A record in CHARGING is metered; one too hot or too cold moves the bay to TEMP_WAIT with both runs
0 (R10); any other moves the run of its step's kind, where a CV record under an offer at or below the taper current is neutral,
and at three records in a row, or with the quota spent, the step ends: the next one begins, or the session completes, counted at
its first completion alone (R39 to R43), and the bay enters READY: it joins the ready list, or the release for the first waiting
request of its type starts (R73, R81). A record in READY moves the end-voltage run, and the third below the top-up voltage
begins a top-up (R44, R45). -/
def Obligations.ChargeIsMeteredWithRemainder : Prop :=
  (∀ (x : Session) (current : Int) (interval : Nat), x.remainder < 1000 → x.sessionCharge ≤ maxCount →
    (x.meter current interval).remainder < 1000 ∧
    ∃ whole, x.remainder + (max 0 current).toNat * min interval 3000 =
        1000 * whole + (x.meter current interval).remainder ∧
      (x.meter current interval).sessionCharge = min maxCount (x.sessionCharge + whole) ∧
      (∀ q, x.stepCharge = some q → (x.meter current interval).stepCharge = some (q - whole)) ∧
      (x.stepCharge = none → (x.meter current interval).stepCharge = none) ∧
      (x.meter current interval).stepIndex = x.stepIndex ∧ (x.meter current interval).stepTime = x.stepTime ∧
      (x.meter current interval).taperRun = x.taperRun ∧ (x.meter current interval).endRun = x.endRun) ∧
  ∀ (s : State) (c : Instr) (f : LineFrame) (rest : List LineFrame) (b : Bay) (p q : PackRecord) (x : Session)
    (h : ProfileHead), Heard s f rest → Completes s c f b p → Fresh s b p → q = clampedRecord p → s.inService = true →
    RecordSafe s b p → (s.bay b).session = some x → s.bayHead b = some h →
    ((s.bay b).state = .charging → ∀ last step y offered z, (s.bay b).latest = some last → s.bayStep b = some step →
      y = x.meter q.current (f.stamp - last.arrival) → offered = offeredCurrent s b step → z = tested step offered q y →
      ∃ t, exec c s = .next t ∧ (t.bay b).latest = some ⟨q, f.stamp⟩ ∧ WarmedOrCold s t b h q ∧
        (h.abortLimit ≤ q.highest ∨ q.lowest < h.coldLimit →
          (t.bay b).session = some { y with taperRun := 0, endRun := 0 } ∧ OtherBaysKept b s t ∧ TablesKept s t) ∧
        (q.highest < h.abortLimit → h.coldLimit ≤ q.lowest →
          (¬ Ended step z → (t.bay b).state = .charging ∧ (t.bay b).session = some z ∧ OtherBaysKept b s t ∧
            TablesKept s t) ∧
          (Ended step z → x.stepIndex < h.stepCount → ∃ w, (t.bay b).state = .charging ∧ (t.bay b).session = some w ∧
            w = { z with
              stepIndex := x.stepIndex + 1
              stepTime := 0
              taperRun := 0
              endRun := 0
              stepCharge := w.stepCharge } ∧
            (∀ n, s.stepOf w = some n → w.stepCharge = if n.quota = 0 then none else some (n.quota * 3600)) ∧
            OtherBaysKept b s t ∧ TablesKept s t) ∧
          (Ended step z → h.stepCount ≤ x.stepIndex →
            EntersReady s t b (completed s z) ∧ CountedOnce s t z))) ∧
    ((s.bay b).state = .ready → ∀ run, run = (if q.voltage < h.topUp then min 3 (x.endRun + 1) else 0) →
      ∃ t, exec c s = .next t ∧ (t.bay b).latest = some ⟨q, f.stamp⟩ ∧ OtherBaysKept b s t ∧ TablesKept s t ∧
        (h.topUp = 0 → (t.bay b).state = .ready ∧ (t.bay b).session = some x ∧ t.rot = s.rot) ∧
        (h.topUp ≠ 0 → run < 3 → (t.bay b).state = .ready ∧ (t.bay b).session = some { x with endRun := run } ∧
          t.rot = s.rot) ∧
        (h.topUp ≠ 0 → run = 3 → ∃ w, (t.bay b).state = .charging ∧ (t.bay b).session = some w ∧
          w = { x with stepTime := 0, taperRun := 0, endRun := 0, stepCharge := w.stepCharge } ∧
          (∀ n, s.bayStep b = some n → w.stepCharge = if n.quota = 0 then none else some (n.quota * 3600)) ∧
          (t.bay b).readyTime = x.firstReady ∧ b ∉ t.rot.ready ∧ t.rot.waiting = s.rot.waiting))

/-- A stage report of a bay that is not disabled is stored, clamped, and handed on for relay; mode FAULT latches STAGE_FAULT and, in
service, moves a bay with a pack to FAULT (R16, R116), ending a release ABORTED with its request handled (R87, R88). In CHECKING,
two reports in a row within 500 mV of the pack voltage pass the connection check into CHARGING, and two below 1,000 mV fail it
into FAULT with CONNECTION latched (R12). -/
def Obligations.StageReportIsStoredAndFaults : Prop :=
  ∀ (s : State) (f : LineFrame) (rest : List LineFrame) (b : Bay) (mode : StageMode), Heard s f rest →
    s.frameUse f = .stage b → f.payload.length = 6 → stageModeOf (field f.payload 0 1) = some mode →
    ∃ t, exec .stageReport s = .next t ∧
      (t.bay b).stage =
        some ⟨mode, field f.payload 1 2, min 2000 (field f.payload 3 2), field f.payload 5 1⟩ ∧
      TablesKept s t ∧
      (mode ≠ .fault → (s.bay b).state ≠ .checking →
        withoutGrants { t.bay b with stage := none } = withoutGrants { s.bay b with stage := none } ∧
        OtherBaysKept b s t ∧
        t = ((tookLine s rest).modBay b fun r => { r with stage := (t.bay b).stage }).relayStage b
          ⟨mode, field f.payload 1 2, min 2000 (field f.payload 3 2), field f.payload 5 1⟩) ∧
      (∀ c a x within runs, mode ≠ .fault → (s.bay b).state = .checking → (s.bay b).check = some c →
        (s.bay b).latest = some a → (s.bay b).session = some x →
        within = decide (field f.payload 1 2 ≤ a.record.voltage + 500 ∧ a.record.voltage ≤ field f.payload 1 2 + 500) →
        runs = (if within = true then ⟨c.pass + 1, 0⟩
          else if field f.payload 1 2 < 1000 then ⟨0, c.low + 1⟩ else ⟨0, 0⟩ : CheckRuns) →
        OtherBaysKept b s t ∧
        (2 ≤ runs.pass → (t.bay b).state = .charging ∧ (t.bay b).session = some { x with checkDone := true } ∧
          (t.bay b).check = none ∧ (t.bay b).checkDeadline = none ∧ (t.bay b).entryTime = s.now) ∧
        (runs.pass < 2 → 2 ≤ runs.low → Faulted s t b .connection) ∧
        (runs.pass < 2 → runs.low < 2 → (t.bay b).state = .checking ∧ (t.bay b).check = some runs ∧
          (t.bay b).checkDeadline = (s.bay b).checkDeadline ∧ (t.bay b).session = some x)) ∧
      (mode = .fault → (s.bay b).state ≠ .fault → Latched t (.bay .stageFault b)) ∧
      (mode = .fault → s.inService = true → (s.bay b).state.withPack = true → (s.bay b).state ≠ .releasing →
        (t.bay b).state = .fault ∧ (t.bay b).session = none ∧ (t.bay b).setpoint = Setpoint.allOff ∧
        OtherBaysKept b s t) ∧
      (∀ r, mode = .fault → s.inService = true → (s.bay b).state = .releasing → s.release b = some r →
        (r.phase ≠ .relatching → ReleaseFailed s t b r .aborted) ∧
        (r.phase = .relatching → (t.bay b).state = .fault ∧ (t.bay b).session = none ∧ t.release b = none ∧
          t.rot.waiting = s.rot.waiting ∧ OtherBaysKept b s t ∧ t.blc.tx.countP TxEntry.limited ≤
            s.blc.tx.countP TxEntry.limited))

/-- A latch report of a bay that is not disabled is stored; it docks a pack in EMPTY, takes a removal in the states of R19, and
faults an unlatched bay (R5, R17, R19, R117). -/
def Obligations.LatchReportDocksRemovesAndFaults : Prop :=
  ∀ (s : State) (f : LineFrame) (rest : List LineFrame) (b : Bay) (latch : Latch) (presence : Presence), Heard s f rest →
    s.frameUse f = .latch b → f.payload.length = 2 → latchOf (field f.payload 0 1) = some latch →
    presenceOf (field f.payload 1 1) = some presence → (s.bay b).state ≠ .releasing →
    ∃ t, exec .latchReport s = .next t ∧ (t.bay b).latch = some latch ∧ (t.bay b).presence = some presence ∧
      OtherBaysKept b s t ∧ TablesKept s t ∧
      ((s.bay b).state = .empty → latch = .closed → presence = .present →
        (t.bay b).state = .identifying ∧ (t.bay b).entryTime = s.now ∧
        (t.bay b).identDeadline = if s.inService = true ∧ s.lineStuck = false then some (s.now + 10000) else none) ∧
      ((s.bay b).state.withPack = true → presence = .absent →
        (t.bay b).state = .empty ∧ (t.bay b).packId = none ∧ (t.bay b).session = none ∧ (t.bay b).latest = none ∧
        Latched t (.bay .unexpectedRemoval b) ∧ t.rdc.assembly.get b = none ∧ t.rdc.alive.get b = ⟨none, 0⟩) ∧
      ((s.bay b).state.withPack = true → presence = .present → latch ≠ .closed →
        (t.bay b).state = .fault ∧ Latched t (.bay .latch b)) ∧
      ((s.bay b).state.withPack = true → presence = .present → latch = .closed →
        (t.bay b).state = (s.bay b).state ∧ (t.bay b).session = (s.bay b).session)

/-- A latch report of a bay in RELEASING (R82 to R85). The pack's absence ends the release in each phase with a RELEASED notice,
the bay EMPTY and no removal raised. An open latch moves UNLATCHING to AWAITING_PICKUP and changes nothing later. A closed latch
changes nothing in UNLATCHING; it ends AWAITING_PICKUP with a NOT_COLLECTED notice, and there and in RELATCHING it returns the
bay to its origin (R73, R85). A jammed latch is a latch failure in UNLATCHING (R83, R88), raises LATCH alone in AWAITING_PICKUP,
and faults the bay in RELATCHING without a further RELATCH. The notices are those of R89. -/
def Obligations.LatchReportMovesARelease : Prop :=
  ∀ (s : State) (f : LineFrame) (rest : List LineFrame) (b : Bay) (latch : Latch) (presence : Presence)
    (r : ReleaseRecord), Heard s f rest → s.frameUse f = .latch b → f.payload.length = 2 →
    latchOf (field f.payload 0 1) = some latch → presenceOf (field f.payload 1 1) = some presence →
    (s.bay b).state = .releasing → s.release b = some r →
    ∃ t, exec .latchReport s = .next t ∧ (t.bay b).latch = some latch ∧ (t.bay b).presence = some presence ∧
      (presence = .absent → (t.bay b).state = .empty ∧ t.release b = none ∧ (t.bay b).packId = none ∧
        (t.bay b).session = none ∧ (t.bay b).latest = none ∧
        t.flags (.bay .unexpectedRemoval b) = s.flags (.bay .unexpectedRemoval b) ∧ OtherBaysKept b s t ∧
        t.rot.waiting = s.rot.waiting ∧ (s.dlp.queued + 16 ≤ 32 → FirstNoticed s t b r .released)) ∧
      (presence = .present → latch = .opened → r.phase = .unlatching →
        (t.bay b).state = .releasing ∧ OtherBaysKept b s t ∧
        t.release b = some { r with
          phase := .awaitingPickup
          deadline := if s.lineStuck = true then none else some (s.now + 120000) }) ∧
      (presence = .present → (latch = .opened ∧ r.phase ≠ .unlatching) ∨ (latch = .closed ∧ r.phase = .unlatching) →
        (t.bay b).state = .releasing ∧ (t.bay b).session = (s.bay b).session ∧ t.rot = s.rot ∧ OtherBaysKept b s t ∧
        TablesKept s t ∧ (s.dlp.queued + 2 ≤ 32 → t.cmn = s.cmn ∧ t.blc.tx = s.blc.tx)) ∧
      (presence = .present → latch = .closed → r.phase = .awaitingPickup →
        Returned s t b r ∧ (s.dlp.queued + 16 ≤ 32 → FirstNoticed s t b r .notCollected)) ∧
      (presence = .present → latch = .closed → r.phase = .relatching → Returned s t b r) ∧
      (presence = .present → latch = .jammed → r.phase = .unlatching →
        Latched t (.bay .latch b) ∧ ReleaseFailed s t b r .latchFailed) ∧
      (presence = .present → latch = .jammed → r.phase = .awaitingPickup →
        Latched t (.bay .latch b) ∧ (t.bay b).state = .releasing ∧ (t.bay b).session = (s.bay b).session ∧ t.rot = s.rot ∧
        OtherBaysKept b s t ∧ TablesKept s t) ∧
      (presence = .present → latch = .jammed → r.phase = .relatching →
        Latched t (.bay .latch b) ∧ (t.bay b).state = .fault ∧ (t.bay b).session = none ∧ t.release b = none ∧
        t.rot.waiting = s.rot.waiting ∧ OtherBaysKept b s t ∧ TablesKept s t ∧
        t.blc.tx.countP TxEntry.limited ≤ s.blc.tx.countP TxEntry.limited)

/-- A meter report (R68 to R70, R118): the reading is clamped, its arrival is now, METER_SILENT ends, and a reading above the
budget and margin counts toward FEEDER_OVER, which becomes active at the third. METER_SILENT_BEGIN after 5 s without a report
raises METER_SILENT as active and shares the blind budget (R50, R69). -/
def Obligations.MeterReportsAndSilenceAreSupervised : Prop :=
  (∀ (s : State) (f : LineFrame) (rest : List LineFrame), Heard s f rest → s.frameUse f = .meter → f.payload.length = 3 →
    ∃ t, exec .meterReport s = .next t ∧ t.rdc.lastMeter = some ⟨min 200000 (field f.payload 0 3), f.stamp⟩ ∧
      t.fal.meterArrival = some s.now ∧ t.fal.meterSilent = false ∧ BaysKept s t ∧ TablesKept s t ∧ ListsKept s t ∧
      t.mgu = s.mgu ∧ t.blc.rx = rest ∧
      (s.fal.meterSilent = false →
        (s.fal.effective + s.fal.budget.margin < min 200000 (field f.payload 0 3) →
          t.fal.overRun = min 3 (s.fal.overRun + 1) ∧
          t.fal.feederOver = (s.fal.feederOver || decide (2 ≤ s.fal.overRun)) ∧
          (2 ≤ s.fal.overRun → s.fal.feederOver = false → Latched t (.depot .feederOver))) ∧
        (min 200000 (field f.payload 0 3) ≤ s.fal.effective + s.fal.budget.margin →
          s.fal.effective < min 200000 (field f.payload 0 3) →
          t.fal.overRun = 0 ∧ t.fal.feederOver = s.fal.feederOver) ∧
        (min 200000 (field f.payload 0 3) ≤ s.fal.effective → t.fal.overRun = 0 ∧ t.fal.feederOver = false))) ∧
  ∀ s : State, s.fal.meterSilent = false → s.fal.meterArrival.getD 0 + 5000 ≤ s.now →
    ∃ t, exec .meterSilentBegin s = .next t ∧ t.fal.meterSilent = true ∧
      (t.flags (.depot .meterSilent)).active = true ∧ Latched t (.depot .meterSilent) ∧
      (s.inService = true → t.cmn.hold = false →
        t.fal.effective = s.fal.budget.blind ∧ t.appliedSum ≤ s.fal.budget.blind) ∧
      BaysKept s t ∧ TablesKept s t ∧ ListsKept s t ∧ t.mgu = s.mgu ∧ t.rdc = s.rdc ∧
      t.fal.meterArrival = s.fal.meterArrival

/-- SERVICE_FRAME, let through by the relay map, puts its payload in the Bay Line transmit queue for the bay and changes nothing
else (R126, R148). A service frame of a dock goes up by its relay map entry (R149), and a frame of a disabled bay, of an unused
station or of a class that does not pair with its source is taken and dropped (R105, R118). Every upward item passes the filter
of its entry: DROP sends nothing, ALL sends it, EVERY_N counts and sends each N-th, ON_CHANGE sends it when the compared fields
differ from the memory, which it then replaces (R140, R145 to R147). A BAY_STATE notice passes the filter of its entry, which does
not allow ON_CHANGE, and joins the upper group (R137, R143 to R145). -/
def Obligations.ServiceFramesPassBothWays : Prop :=
  (∀ (s : State) (f : DepotFrame) (rest : List DepotFrame) (b : Bay), Asked s 0x15 f rest → 1 ≤ f.payload.length →
    f.payload.length ≤ 15 → bayOf (field f.payload 0 1) = some b → s.dlp.map.serviceDown ≠ .refuse →
    (s.bay b).state ≠ .disabled → s.placeFree = true → Room s →
    exec .serviceFrame s = .next (queuedUpper
      { tookRequest s rest with blc := { s.blc with
        tx := s.blc.tx ++ [⟨.service b f.payload.tail, s.now, false, false, 0⟩] } } (answerFrame f .ok []))) ∧
  (∀ (s : State) (f : LineFrame) (rest : List LineFrame), Heard s f rest →
    (∀ b, s.frameUse f = .service b → f.payload.length ≤ 14 → s.dlp.map.serviceUp ≠ .onChange → Room s →
      ∃ t, exec .dockServiceFrame s = .next t ∧
        Filtered s.dlp.map.serviceUp (s.dlp.counters.serviceUp.get b) false t
          (fun n => countedServiceUp (tookLine s rest) b n)
          (fun u _ => relayed u 0xA5 (bayByte (some b) ++ f.payload) none none)) ∧
    (s.frameUse f = .ignored → exec .ignoredFrame s = .next (tookLine s rest)) ∧
    ((∃ b, bayOf f.source = some b ∧ (s.bay b).state = .disabled ∧ f.cls ≠ 5) ∨ (17 ≤ f.source ∧ f.cls ≠ 5) ∨
      (f.cls = 5 ∧ f.source ≠ 31) ∨ f.cls ≤ 2 → s.frameUse f = .ignored)) ∧
  ∀ (s : State) (b : Bay), s.dlp.queued + 2 ≤ 32 →
    (∀ p : StageReport, Filtered s.dlp.map.stage (s.dlp.counters.stage.get b)
      (s.dlp.memos.stage.get b == some ⟨p.mode, p.code⟩) (s.relayStage b p)
      (fun n => s.setCounters fun c => { c with stage := c.stage.set b n })
      (fun u keep => relayed
        (if keep then u.setMemos fun m => { m with stage := m.stage.set b (some ⟨p.mode, p.code⟩) } else u) 0xA2
        (bayByte (some b) ++ be 1 p.mode.code ++ be 2 p.voltage ++ be 2 p.current ++ be 1 p.code) none
        (if keep then some (.stage b) else none))) ∧
    (∀ l v, Filtered s.dlp.map.latch (s.dlp.counters.latch.get b)
      (s.dlp.memos.latch.get b == some ⟨l, v⟩) (s.relayLatch b l v)
      (fun n => s.setCounters fun c => { c with latch := c.latch.set b n })
      (fun u keep => relayed
        (if keep then u.setMemos fun m => { m with latch := m.latch.set b (some ⟨l, v⟩) } else u) 0xA3
        (bayByte (some b) ++ be 1 l.code ++ be 1 v.code) none (if keep then some (.latch b) else none))) ∧
    (∀ w, Filtered s.dlp.map.meter s.dlp.counters.meter (s.dlp.memos.meter == some w) (s.relayMeter w)
      (fun n => s.setCounters fun c => { c with meter := n })
      (fun u keep => relayed (if keep then u.setMemos fun m => { m with meter := some w } else u) 0xA4 (be 3 w) none
        (if keep then some .meter else none))) ∧
    (∀ (p : PackRecord) (memo : TelemetryMemo),
      memo = ⟨(s.bay b).state, (s.bay b).session.map (·.stepIndex), p.soc, (s.bay b).setpoint⟩ →
      Filtered s.dlp.map.telemetry (s.dlp.counters.telemetry.get b) (s.dlp.memos.telemetry.get b == some memo)
        (s.relayTelemetry b p) (fun n => s.setCounters fun c => { c with telemetry := c.telemetry.set b n })
        (fun u keep => relayed
          (if keep then u.setMemos fun m => { m with telemetry := m.telemetry.set b (some memo) } else u) 0xA0
          (telemetryPayload b (s.bay b) p)
          (if 12 < p.groups then some (0xA1, bayByte (some b) ++ (p.cells.drop 12).flatMap (be 2)) else none)
          (if keep then some (.telemetry b) else none))) ∧
    ∀ previous, s.dlp.map.bayState ≠ .onChange →
      Filtered s.dlp.map.bayState (s.dlp.counters.bayState.get b) false (s.bayStateNotice b previous)
        (fun n => s.setCounters fun c => { c with bayState := c.bayState.set b n })
        (fun u _ => queuedUpper { u with dlp := { u.dlp with sendCount := (u.dlp.sendCount + 1) % 65536 } }
          ⟨0x93, u.dlp.sendCount, flagByte (s.bay b).reason.isSome ++ be 1 (bayNumber b) ++ be 1 previous.code ++
            be 1 (s.bay b).state.code ++ be 1 (((s.bay b).reason.map QuarantineReason.code).getD 0) ++
            be 4 ((s.bay b).packId.getD 0)⟩)

/-! ## Step times and deadlines -/

/-- STEP_TIME_ADVANCE adds one second to the step time of each bay in CHARGING, outside hold, whose step is REST or whose setpoint
current is above 0, and changes nothing else (R34, R35). STEP_TIMEOUT: with action FAULT the bay faults, and with ADVANCE it goes
on to the next step, or completes its session, counted once in the registry, and enters READY, where it joins the ready list or
serves the first waiting request of its type (R36, R41, R43, R73, R81). -/
def Obligations.StepTimesCountAndTimeOut : Prop :=
  (∀ s : State, ∃ t, exec .stepTimeAdvance s = .next t ∧
    (∀ b x, (s.bay b).session = some x → (s.bay b).state = .charging → s.cmn.hold = false →
      ((∃ p, s.bayStep b = some p ∧ p.kind = .rest) ∨ 0 < (s.bay b).setpoint.current) →
      t.bay b = { s.bay b with session := some { x with stepTime := min 4294967295 (x.stepTime + 1) } }) ∧
    (∀ b, (s.bay b).session = none ∨ (s.bay b).state ≠ .charging ∨ s.cmn.hold = true ∨
      ((∀ p, s.bayStep b = some p → p.kind ≠ .rest) ∧ (s.bay b).setpoint.current = 0) → t.bay b = s.bay b) ∧
    { t with bays := s.bays } = s) ∧
  ∀ (s : State) (b : Bay) (x : Session) (p : ProfileStep) (h : ProfileHead), (s.bay b).state = .charging →
    (s.bay b).session = some x → s.bayStep b = some p → s.bayHead b = some h → p.maxTime ≠ 0 →
    p.maxTime * 60 ≤ x.stepTime →
    (p.onTimeout = .fault →
      ∃ t, exec (.stepTimeout b) s = .next t ∧ Faulted s t b .stepTimeout) ∧
    (p.onTimeout = .advance → x.stepIndex < h.stepCount →
      ∃ t y, exec (.stepTimeout b) s = .next t ∧ (t.bay b).state = .charging ∧ (t.bay b).session = some y ∧
        y = { x with
          stepIndex := x.stepIndex + 1
          stepTime := 0
          taperRun := 0
          endRun := 0
          stepCharge := y.stepCharge } ∧
        (∀ q, s.stepOf y = some q → y.stepCharge = if q.quota = 0 then none else some (q.quota * 3600)) ∧
        OtherBaysKept b s t ∧ TablesKept s t) ∧
    (p.onTimeout = .advance → h.stepCount ≤ x.stepIndex →
      ∃ t, exec (.stepTimeout b) s = .next t ∧ EntersReady s t b (completed s x) ∧ CountedOnce s t x)

/-- The deadlines that move a bay to FAULT: the identifying deadline with NO_DATA, the check deadline with CONNECTION, and the
NO_DATA escalation after 60 s (R6, R13, R21). -/
def Obligations.DeadlinesMoveBayToFault : Prop :=
  ∀ (s : State) (b : Bay),
    ((s.bay b).state = .identifying → Passed s (s.bay b).identDeadline →
      ∃ t, exec (.identifyingDeadline b) s = .next t ∧ Faulted s t b .noData) ∧
    ((s.bay b).state = .checking → Passed s (s.bay b).checkDeadline →
      ∃ t, exec (.checkDeadline b) s = .next t ∧ Faulted s t b .connection) ∧
    (∀ d, (s.bay b).state.escalates = true → (s.bay b).escalation = some d → d + 60000 ≤ s.now →
      ∃ t, exec (.noDataEscalation b) s = .next t ∧ Faulted s t b .noData)

/-- NO_DATA_SET sets the flag of a bay whose record age has passed 3 s, raises NO_DATA as active, and starts the escalation
unless LINE_STUCK is active; LONG_COOL_TIMEOUT raises LONG_COOL once after 7,200 s in TEMP_WAIT (R10, R11, R20, R21). -/
def Obligations.StaleAndLongCoolingBaysAreReported : Prop :=
  ∀ (s : State) (b : Bay),
    (∀ a, (s.bay b).state.watched = true → (s.bay b).noData = false → (s.bay b).latest = some a →
      a.arrival + 3000 < s.now →
      ∃ t, exec (.noDataSet b) s = .next t ∧ (t.bay b).noData = true ∧
        (t.flags (.bay .noData b)).active = true ∧ Latched t (.bay .noData b) ∧
        (t.bay b).escalation = (if (s.bay b).state.escalates = true ∧ s.lineStuck = false then some s.now else none) ∧
        (t.bay b).state = (s.bay b).state ∧ (t.bay b).session = (s.bay b).session ∧
        (t.bay b).setpoint.mode ≠ .on ∧ OtherBaysKept b s t ∧ TablesKept s t ∧ ServiceKept s t ∧ ListsKept s t) ∧
    ((s.bay b).state = .tempWait → (s.bay b).longCool = false → (s.bay b).entryTime + 7200000 ≤ s.now →
      ∃ t, exec (.longCoolTimeout b) s = .next t ∧ Latched t (.bay .longCool b) ∧ (t.bay b).state = .tempWait ∧
        exec (.longCoolTimeout b) t = .next t ∧ (t.bay b).session = (s.bay b).session ∧ OtherBaysKept b s t ∧
        TablesKept s t ∧ ServiceKept s t ∧ ListsKept s t)

/-- XSTOP_ASSERTED raises EXTERNAL_STOP as active, with TRIP and hold by the alarm map; XSTOP_RELEASED makes it inactive and
leaves it latched (R168, R169, R173). -/
def Obligations.StopInputRaisesExternalStop : Prop :=
  ∀ s : State,
    (s.cmn.xstop = false →
      ∃ t, exec .xstopAsserted s = .next t ∧ t.cmn.xstop = true ∧ (t.flags (.depot .externalStop)).active = true ∧
        Latched t (.depot .externalStop) ∧ (s.cmn.map.trip.get 2 = true → t.cmn.trip = true) ∧
        (s.cmn.map.hold.get 2 = true → (s.flags (.depot .externalStop)).latched = false → s.cmn.hold = false →
          t.cmn.hold = true ∧ t.cmn.originDepot.get 2 = true ∧ t.fal.effective = 0 ∧ t.fal.headroom = 0 ∧
          Queued t .stop ∧ ∀ b, (t.bay b).applied = 0 ∧ (t.bay b).granted = 0 ∧
            (t.bay b).demand = (s.bay b).demand ∧ (t.bay b).urgency = (s.bay b).urgency ∧
            (t.bay b).setpoint.mode ≠ .on) ∧
        BaysKept s t ∧ TablesKept s t ∧ ServiceKept s t ∧ ListsKept s t) ∧
    (s.cmn.xstop = true →
      exec .xstopReleased s = .next { s with cmn := { s.cmn with
        xstop := false
        depot := s.cmn.depot.set 2 ⟨false, (s.cmn.depot.get 2).latched⟩ } })
end

