-- ==== Sys2Proof/Laws/Table.lean ====
section
/-! SUPPORT. Laws of tables: reading after writing, and the tables that are built at once. -/

namespace Sys2Proof

variable {n : Nat} {α : Type}

@[simp] theorem Table.get_set_self (t : Table n α) (i : Fin n) (a : α) : (t.set i a).get i = a := by
  simp [Table.get, Table.set]

theorem Table.get_set_ne (t : Table n α) {i j : Fin n} (a : α) (h : j ≠ i) : (t.set i a).get j = t.get j := by
  have : i.val ≠ j.val := fun e => h (Fin.ext e.symm)
  simp [Table.get, Table.set, this]

theorem Table.get_set (t : Table n α) (i j : Fin n) (a : α) :
    (t.set i a).get j = if j = i then a else t.get j := by
  by_cases h : j = i
  · subst h; simp
  · rw [Table.get_set_ne t a h, if_neg h]

@[simp] theorem Table.get_replicate (i : Fin n) (a : α) : (Table.replicate n a).get i = a := by
  simp [Table.get, Table.replicate]

@[simp] theorem Table.get_ofFn (f : Fin n → α) (i : Fin n) : (Table.ofFn f).get i = f i := by
  simp [Table.get, Table.ofFn]

@[simp] theorem Table.set_get_self (t : Table n α) (i : Fin n) : t.set i (t.get i) = t := by
  cases t with
  | mk l h => simp [Table.set, Table.get]

/-- Two tables with the same items are the same table. -/
theorem Table.ext_get {t u : Table n α} (h : ∀ i, t.get i = u.get i) : t = u := by
  cases t with
  | mk l hl =>
    cases u with
    | mk m hm =>
      congr
      apply List.ext_getElem (hl.trans hm.symm)
      intro i h1 _
      exact h ⟨i, hl ▸ h1⟩

/-- Every bay is in the list of all bays. -/
theorem mem_allBays (b : Bay) : b ∈ allBays := by revert b; decide

end Sys2Proof
end

