-- ==== Sys2Proof/Laws/State.lean ====
section
/-! SUPPORT. One lemma for each field of the state and each named update of it, and the reading of bay records after the
updates of bay records. -/

namespace Sys2Proof.Machine

/-! ### setBay -/

@[simp] theorem State.setBay_bays (s : State) (b : Bay) (r : BayRecord) :
    (s.setBay b r).bays = s.bays.set b r := rfl

@[simp] theorem State.setBay_config (s : State) (b : Bay) (r : BayRecord) :
    (s.setBay b r).config = s.config := rfl

@[simp] theorem State.setBay_profiles (s : State) (b : Bay) (r : BayRecord) :
    (s.setBay b r).profiles = s.profiles := rfl

@[simp] theorem State.setBay_fal (s : State) (b : Bay) (r : BayRecord) :
    (s.setBay b r).fal = s.fal := rfl

@[simp] theorem State.setBay_rot (s : State) (b : Bay) (r : BayRecord) :
    (s.setBay b r).rot = s.rot := rfl

@[simp] theorem State.setBay_registry (s : State) (b : Bay) (r : BayRecord) :
    (s.setBay b r).registry = s.registry := rfl

@[simp] theorem State.setBay_rdc (s : State) (b : Bay) (r : BayRecord) :
    (s.setBay b r).rdc = s.rdc := rfl

@[simp] theorem State.setBay_blc (s : State) (b : Bay) (r : BayRecord) :
    (s.setBay b r).blc = s.blc := rfl

@[simp] theorem State.setBay_dlp (s : State) (b : Bay) (r : BayRecord) :
    (s.setBay b r).dlp = s.dlp := rfl

@[simp] theorem State.setBay_mgu (s : State) (b : Bay) (r : BayRecord) :
    (s.setBay b r).mgu = s.mgu := rfl

@[simp] theorem State.setBay_cmn (s : State) (b : Bay) (r : BayRecord) :
    (s.setBay b r).cmn = s.cmn := rfl

@[simp] theorem State.setBay_pending (s : State) (b : Bay) (r : BayRecord) :
    (s.setBay b r).pending = s.pending := rfl

@[simp] theorem State.setBay_freeCount (s : State) (b : Bay) (r : BayRecord) :
    (s.setBay b r).freeCount = s.freeCount := rfl

/-! ### modBay -/

@[simp] theorem State.modBay_bays (s : State) (b : Bay) (f : BayRecord → BayRecord) :
    (s.modBay b f).bays = s.bays.set b (f (s.bay b)) := rfl

@[simp] theorem State.modBay_config (s : State) (b : Bay) (f : BayRecord → BayRecord) :
    (s.modBay b f).config = s.config := rfl

@[simp] theorem State.modBay_profiles (s : State) (b : Bay) (f : BayRecord → BayRecord) :
    (s.modBay b f).profiles = s.profiles := rfl

@[simp] theorem State.modBay_fal (s : State) (b : Bay) (f : BayRecord → BayRecord) :
    (s.modBay b f).fal = s.fal := rfl

@[simp] theorem State.modBay_rot (s : State) (b : Bay) (f : BayRecord → BayRecord) :
    (s.modBay b f).rot = s.rot := rfl

@[simp] theorem State.modBay_registry (s : State) (b : Bay) (f : BayRecord → BayRecord) :
    (s.modBay b f).registry = s.registry := rfl

@[simp] theorem State.modBay_rdc (s : State) (b : Bay) (f : BayRecord → BayRecord) :
    (s.modBay b f).rdc = s.rdc := rfl

@[simp] theorem State.modBay_blc (s : State) (b : Bay) (f : BayRecord → BayRecord) :
    (s.modBay b f).blc = s.blc := rfl

@[simp] theorem State.modBay_dlp (s : State) (b : Bay) (f : BayRecord → BayRecord) :
    (s.modBay b f).dlp = s.dlp := rfl

@[simp] theorem State.modBay_mgu (s : State) (b : Bay) (f : BayRecord → BayRecord) :
    (s.modBay b f).mgu = s.mgu := rfl

@[simp] theorem State.modBay_cmn (s : State) (b : Bay) (f : BayRecord → BayRecord) :
    (s.modBay b f).cmn = s.cmn := rfl

@[simp] theorem State.modBay_pending (s : State) (b : Bay) (f : BayRecord → BayRecord) :
    (s.modBay b f).pending = s.pending := rfl

@[simp] theorem State.modBay_freeCount (s : State) (b : Bay) (f : BayRecord → BayRecord) :
    (s.modBay b f).freeCount = s.freeCount := rfl

/-! ### modBays -/

@[simp] theorem State.modBays_bays (s : State) (f : Bay → BayRecord → BayRecord) :
    (s.modBays f).bays = Table.ofFn (fun b => f b (s.bay b)) := rfl

@[simp] theorem State.modBays_config (s : State) (f : Bay → BayRecord → BayRecord) :
    (s.modBays f).config = s.config := rfl

@[simp] theorem State.modBays_profiles (s : State) (f : Bay → BayRecord → BayRecord) :
    (s.modBays f).profiles = s.profiles := rfl

@[simp] theorem State.modBays_fal (s : State) (f : Bay → BayRecord → BayRecord) :
    (s.modBays f).fal = s.fal := rfl

@[simp] theorem State.modBays_rot (s : State) (f : Bay → BayRecord → BayRecord) :
    (s.modBays f).rot = s.rot := rfl

@[simp] theorem State.modBays_registry (s : State) (f : Bay → BayRecord → BayRecord) :
    (s.modBays f).registry = s.registry := rfl

@[simp] theorem State.modBays_rdc (s : State) (f : Bay → BayRecord → BayRecord) :
    (s.modBays f).rdc = s.rdc := rfl

@[simp] theorem State.modBays_blc (s : State) (f : Bay → BayRecord → BayRecord) :
    (s.modBays f).blc = s.blc := rfl

@[simp] theorem State.modBays_dlp (s : State) (f : Bay → BayRecord → BayRecord) :
    (s.modBays f).dlp = s.dlp := rfl

@[simp] theorem State.modBays_mgu (s : State) (f : Bay → BayRecord → BayRecord) :
    (s.modBays f).mgu = s.mgu := rfl

@[simp] theorem State.modBays_cmn (s : State) (f : Bay → BayRecord → BayRecord) :
    (s.modBays f).cmn = s.cmn := rfl

@[simp] theorem State.modBays_pending (s : State) (f : Bay → BayRecord → BayRecord) :
    (s.modBays f).pending = s.pending := rfl

@[simp] theorem State.modBays_freeCount (s : State) (f : Bay → BayRecord → BayRecord) :
    (s.modBays f).freeCount = s.freeCount := rfl

/-! ### setTx -/

@[simp] theorem State.setTx_bays (s : State) (tx : List TxEntry) :
    (s.setTx tx).bays = s.bays := rfl

@[simp] theorem State.setTx_config (s : State) (tx : List TxEntry) :
    (s.setTx tx).config = s.config := rfl

@[simp] theorem State.setTx_profiles (s : State) (tx : List TxEntry) :
    (s.setTx tx).profiles = s.profiles := rfl

@[simp] theorem State.setTx_fal (s : State) (tx : List TxEntry) :
    (s.setTx tx).fal = s.fal := rfl

@[simp] theorem State.setTx_rot (s : State) (tx : List TxEntry) :
    (s.setTx tx).rot = s.rot := rfl

@[simp] theorem State.setTx_registry (s : State) (tx : List TxEntry) :
    (s.setTx tx).registry = s.registry := rfl

@[simp] theorem State.setTx_rdc (s : State) (tx : List TxEntry) :
    (s.setTx tx).rdc = s.rdc := rfl

@[simp] theorem State.setTx_blc (s : State) (tx : List TxEntry) :
    (s.setTx tx).blc = { s.blc with tx := tx } := rfl

@[simp] theorem State.setTx_dlp (s : State) (tx : List TxEntry) :
    (s.setTx tx).dlp = s.dlp := rfl

@[simp] theorem State.setTx_mgu (s : State) (tx : List TxEntry) :
    (s.setTx tx).mgu = s.mgu := rfl

@[simp] theorem State.setTx_cmn (s : State) (tx : List TxEntry) :
    (s.setTx tx).cmn = s.cmn := rfl

@[simp] theorem State.setTx_pending (s : State) (tx : List TxEntry) :
    (s.setTx tx).pending = s.pending := rfl

@[simp] theorem State.setTx_freeCount (s : State) (tx : List TxEntry) :
    (s.setTx tx).freeCount = s.freeCount := rfl

/-! ### setFlags -/

@[simp] theorem State.setFlags_bays (s : State) (id : CondId) (f : Flags) :
    (s.setFlags id f).bays = s.bays := rfl

@[simp] theorem State.setFlags_config (s : State) (id : CondId) (f : Flags) :
    (s.setFlags id f).config = s.config := rfl

@[simp] theorem State.setFlags_profiles (s : State) (id : CondId) (f : Flags) :
    (s.setFlags id f).profiles = s.profiles := rfl

@[simp] theorem State.setFlags_fal (s : State) (id : CondId) (f : Flags) :
    (s.setFlags id f).fal = s.fal := rfl

@[simp] theorem State.setFlags_rot (s : State) (id : CondId) (f : Flags) :
    (s.setFlags id f).rot = s.rot := rfl

@[simp] theorem State.setFlags_registry (s : State) (id : CondId) (f : Flags) :
    (s.setFlags id f).registry = s.registry := rfl

@[simp] theorem State.setFlags_rdc (s : State) (id : CondId) (f : Flags) :
    (s.setFlags id f).rdc = s.rdc := rfl

@[simp] theorem State.setFlags_blc (s : State) (id : CondId) (f : Flags) :
    (s.setFlags id f).blc = s.blc := rfl

@[simp] theorem State.setFlags_dlp (s : State) (id : CondId) (f : Flags) :
    (s.setFlags id f).dlp = s.dlp := rfl

@[simp] theorem State.setFlags_mgu (s : State) (id : CondId) (f : Flags) :
    (s.setFlags id f).mgu = s.mgu := rfl

@[simp] theorem State.setFlags_cmn (s : State) (id : CondId) (f : Flags) :
    (s.setFlags id f).cmn = s.cmn.setFlags id f := rfl

@[simp] theorem State.setFlags_pending (s : State) (id : CondId) (f : Flags) :
    (s.setFlags id f).pending = s.pending := rfl

@[simp] theorem State.setFlags_freeCount (s : State) (id : CondId) (f : Flags) :
    (s.setFlags id f).freeCount = s.freeCount := rfl

/-! ### recomputeTrip -/

@[simp] theorem State.recomputeTrip_bays (s : State) :
    s.recomputeTrip.bays = s.bays := rfl

@[simp] theorem State.recomputeTrip_config (s : State) :
    s.recomputeTrip.config = s.config := rfl

@[simp] theorem State.recomputeTrip_profiles (s : State) :
    s.recomputeTrip.profiles = s.profiles := rfl

@[simp] theorem State.recomputeTrip_fal (s : State) :
    s.recomputeTrip.fal = s.fal := rfl

@[simp] theorem State.recomputeTrip_rot (s : State) :
    s.recomputeTrip.rot = s.rot := rfl

@[simp] theorem State.recomputeTrip_registry (s : State) :
    s.recomputeTrip.registry = s.registry := rfl

@[simp] theorem State.recomputeTrip_rdc (s : State) :
    s.recomputeTrip.rdc = s.rdc := rfl

@[simp] theorem State.recomputeTrip_blc (s : State) :
    s.recomputeTrip.blc = s.blc := rfl

@[simp] theorem State.recomputeTrip_dlp (s : State) :
    s.recomputeTrip.dlp = s.dlp := rfl

@[simp] theorem State.recomputeTrip_mgu (s : State) :
    s.recomputeTrip.mgu = s.mgu := rfl

@[simp] theorem State.recomputeTrip_cmn (s : State) :
    s.recomputeTrip.cmn = { s.cmn with trip := s.cmn.tripRule } := rfl

@[simp] theorem State.recomputeTrip_pending (s : State) :
    s.recomputeTrip.pending = s.pending := rfl

@[simp] theorem State.recomputeTrip_freeCount (s : State) :
    s.recomputeTrip.freeCount = s.freeCount := rfl

/-! ### recomputeBudget -/

@[simp] theorem State.recomputeBudget_bays (s : State) :
    s.recomputeBudget.bays = s.bays := rfl

@[simp] theorem State.recomputeBudget_config (s : State) :
    s.recomputeBudget.config = s.config := rfl

@[simp] theorem State.recomputeBudget_profiles (s : State) :
    s.recomputeBudget.profiles = s.profiles := rfl

@[simp] theorem State.recomputeBudget_fal (s : State) :
    s.recomputeBudget.fal = { s.fal with effective := s.effectiveBudget, headroom := s.effectiveBudget - s.appliedSum } := rfl

@[simp] theorem State.recomputeBudget_rot (s : State) :
    s.recomputeBudget.rot = s.rot := rfl

@[simp] theorem State.recomputeBudget_registry (s : State) :
    s.recomputeBudget.registry = s.registry := rfl

@[simp] theorem State.recomputeBudget_rdc (s : State) :
    s.recomputeBudget.rdc = s.rdc := rfl

@[simp] theorem State.recomputeBudget_blc (s : State) :
    s.recomputeBudget.blc = s.blc := rfl

@[simp] theorem State.recomputeBudget_dlp (s : State) :
    s.recomputeBudget.dlp = s.dlp := rfl

@[simp] theorem State.recomputeBudget_mgu (s : State) :
    s.recomputeBudget.mgu = s.mgu := rfl

@[simp] theorem State.recomputeBudget_cmn (s : State) :
    s.recomputeBudget.cmn = s.cmn := rfl

@[simp] theorem State.recomputeBudget_pending (s : State) :
    s.recomputeBudget.pending = s.pending := rfl

@[simp] theorem State.recomputeBudget_freeCount (s : State) :
    s.recomputeBudget.freeCount = s.freeCount := rfl

/-! ### setRelease -/

@[simp] theorem State.setRelease_bays (s : State) (b : Bay) (r : Option ReleaseRecord) :
    (s.setRelease b r).bays = s.bays := rfl

@[simp] theorem State.setRelease_config (s : State) (b : Bay) (r : Option ReleaseRecord) :
    (s.setRelease b r).config = s.config := rfl

@[simp] theorem State.setRelease_profiles (s : State) (b : Bay) (r : Option ReleaseRecord) :
    (s.setRelease b r).profiles = s.profiles := rfl

@[simp] theorem State.setRelease_fal (s : State) (b : Bay) (r : Option ReleaseRecord) :
    (s.setRelease b r).fal = s.fal := rfl

@[simp] theorem State.setRelease_rot (s : State) (b : Bay) (r : Option ReleaseRecord) :
    (s.setRelease b r).rot = { s.rot with releases := s.rot.releases.set b r } := rfl

@[simp] theorem State.setRelease_registry (s : State) (b : Bay) (r : Option ReleaseRecord) :
    (s.setRelease b r).registry = s.registry := rfl

@[simp] theorem State.setRelease_rdc (s : State) (b : Bay) (r : Option ReleaseRecord) :
    (s.setRelease b r).rdc = s.rdc := rfl

@[simp] theorem State.setRelease_blc (s : State) (b : Bay) (r : Option ReleaseRecord) :
    (s.setRelease b r).blc = s.blc := rfl

@[simp] theorem State.setRelease_dlp (s : State) (b : Bay) (r : Option ReleaseRecord) :
    (s.setRelease b r).dlp = s.dlp := rfl

@[simp] theorem State.setRelease_mgu (s : State) (b : Bay) (r : Option ReleaseRecord) :
    (s.setRelease b r).mgu = s.mgu := rfl

@[simp] theorem State.setRelease_cmn (s : State) (b : Bay) (r : Option ReleaseRecord) :
    (s.setRelease b r).cmn = s.cmn := rfl

@[simp] theorem State.setRelease_pending (s : State) (b : Bay) (r : Option ReleaseRecord) :
    (s.setRelease b r).pending = s.pending := rfl

@[simp] theorem State.setRelease_freeCount (s : State) (b : Bay) (r : Option ReleaseRecord) :
    (s.setRelease b r).freeCount = s.freeCount := rfl

/-! ### unlist -/

@[simp] theorem State.unlist_bays (s : State) (b : Bay) :
    (s.unlist b).bays = s.bays := rfl

@[simp] theorem State.unlist_config (s : State) (b : Bay) :
    (s.unlist b).config = s.config := rfl

@[simp] theorem State.unlist_profiles (s : State) (b : Bay) :
    (s.unlist b).profiles = s.profiles := rfl

@[simp] theorem State.unlist_fal (s : State) (b : Bay) :
    (s.unlist b).fal = s.fal := rfl

@[simp] theorem State.unlist_rot (s : State) (b : Bay) :
    (s.unlist b).rot = { s.rot with ready := s.rot.ready.filter (fun c => c != b) } := rfl

@[simp] theorem State.unlist_registry (s : State) (b : Bay) :
    (s.unlist b).registry = s.registry := rfl

@[simp] theorem State.unlist_rdc (s : State) (b : Bay) :
    (s.unlist b).rdc = s.rdc := rfl

@[simp] theorem State.unlist_blc (s : State) (b : Bay) :
    (s.unlist b).blc = s.blc := rfl

@[simp] theorem State.unlist_dlp (s : State) (b : Bay) :
    (s.unlist b).dlp = s.dlp := rfl

@[simp] theorem State.unlist_mgu (s : State) (b : Bay) :
    (s.unlist b).mgu = s.mgu := rfl

@[simp] theorem State.unlist_cmn (s : State) (b : Bay) :
    (s.unlist b).cmn = s.cmn := rfl

@[simp] theorem State.unlist_pending (s : State) (b : Bay) :
    (s.unlist b).pending = s.pending := rfl

@[simp] theorem State.unlist_freeCount (s : State) (b : Bay) :
    (s.unlist b).freeCount = s.freeCount := rfl

/-! ### joinReady -/

@[simp] theorem State.joinReady_bays (s : State) (b : Bay) :
    (s.joinReady b).bays = s.bays := rfl

@[simp] theorem State.joinReady_config (s : State) (b : Bay) :
    (s.joinReady b).config = s.config := rfl

@[simp] theorem State.joinReady_profiles (s : State) (b : Bay) :
    (s.joinReady b).profiles = s.profiles := rfl

@[simp] theorem State.joinReady_fal (s : State) (b : Bay) :
    (s.joinReady b).fal = s.fal := rfl

@[simp] theorem State.joinReady_rot (s : State) (b : Bay) :
    (s.joinReady b).rot = { s.rot with ready := insertReady s.readyBefore b s.rot.ready } := rfl

@[simp] theorem State.joinReady_registry (s : State) (b : Bay) :
    (s.joinReady b).registry = s.registry := rfl

@[simp] theorem State.joinReady_rdc (s : State) (b : Bay) :
    (s.joinReady b).rdc = s.rdc := rfl

@[simp] theorem State.joinReady_blc (s : State) (b : Bay) :
    (s.joinReady b).blc = s.blc := rfl

@[simp] theorem State.joinReady_dlp (s : State) (b : Bay) :
    (s.joinReady b).dlp = s.dlp := rfl

@[simp] theorem State.joinReady_mgu (s : State) (b : Bay) :
    (s.joinReady b).mgu = s.mgu := rfl

@[simp] theorem State.joinReady_cmn (s : State) (b : Bay) :
    (s.joinReady b).cmn = s.cmn := rfl

@[simp] theorem State.joinReady_pending (s : State) (b : Bay) :
    (s.joinReady b).pending = s.pending := rfl

@[simp] theorem State.joinReady_freeCount (s : State) (b : Bay) :
    (s.joinReady b).freeCount = s.freeCount := rfl

/-! ### setWaiting -/

@[simp] theorem State.setWaiting_bays (s : State) (w : List WaitEntry) :
    (s.setWaiting w).bays = s.bays := rfl

@[simp] theorem State.setWaiting_config (s : State) (w : List WaitEntry) :
    (s.setWaiting w).config = s.config := rfl

@[simp] theorem State.setWaiting_profiles (s : State) (w : List WaitEntry) :
    (s.setWaiting w).profiles = s.profiles := rfl

@[simp] theorem State.setWaiting_fal (s : State) (w : List WaitEntry) :
    (s.setWaiting w).fal = s.fal := rfl

@[simp] theorem State.setWaiting_rot (s : State) (w : List WaitEntry) :
    (s.setWaiting w).rot = { s.rot with waiting := w } := rfl

@[simp] theorem State.setWaiting_registry (s : State) (w : List WaitEntry) :
    (s.setWaiting w).registry = s.registry := rfl

@[simp] theorem State.setWaiting_rdc (s : State) (w : List WaitEntry) :
    (s.setWaiting w).rdc = s.rdc := rfl

@[simp] theorem State.setWaiting_blc (s : State) (w : List WaitEntry) :
    (s.setWaiting w).blc = s.blc := rfl

@[simp] theorem State.setWaiting_dlp (s : State) (w : List WaitEntry) :
    (s.setWaiting w).dlp = s.dlp := rfl

@[simp] theorem State.setWaiting_mgu (s : State) (w : List WaitEntry) :
    (s.setWaiting w).mgu = s.mgu := rfl

@[simp] theorem State.setWaiting_cmn (s : State) (w : List WaitEntry) :
    (s.setWaiting w).cmn = s.cmn := rfl

@[simp] theorem State.setWaiting_pending (s : State) (w : List WaitEntry) :
    (s.setWaiting w).pending = s.pending := rfl

@[simp] theorem State.setWaiting_freeCount (s : State) (w : List WaitEntry) :
    (s.setWaiting w).freeCount = s.freeCount := rfl

/-! ### setCounters -/

@[simp] theorem State.setCounters_bays (s : State) (f : Counters → Counters) :
    (s.setCounters f).bays = s.bays := rfl

@[simp] theorem State.setCounters_config (s : State) (f : Counters → Counters) :
    (s.setCounters f).config = s.config := rfl

@[simp] theorem State.setCounters_profiles (s : State) (f : Counters → Counters) :
    (s.setCounters f).profiles = s.profiles := rfl

@[simp] theorem State.setCounters_fal (s : State) (f : Counters → Counters) :
    (s.setCounters f).fal = s.fal := rfl

@[simp] theorem State.setCounters_rot (s : State) (f : Counters → Counters) :
    (s.setCounters f).rot = s.rot := rfl

@[simp] theorem State.setCounters_registry (s : State) (f : Counters → Counters) :
    (s.setCounters f).registry = s.registry := rfl

@[simp] theorem State.setCounters_rdc (s : State) (f : Counters → Counters) :
    (s.setCounters f).rdc = s.rdc := rfl

@[simp] theorem State.setCounters_blc (s : State) (f : Counters → Counters) :
    (s.setCounters f).blc = s.blc := rfl

@[simp] theorem State.setCounters_dlp (s : State) (f : Counters → Counters) :
    (s.setCounters f).dlp = { s.dlp with counters := f s.dlp.counters } := rfl

@[simp] theorem State.setCounters_mgu (s : State) (f : Counters → Counters) :
    (s.setCounters f).mgu = s.mgu := rfl

@[simp] theorem State.setCounters_cmn (s : State) (f : Counters → Counters) :
    (s.setCounters f).cmn = s.cmn := rfl

@[simp] theorem State.setCounters_pending (s : State) (f : Counters → Counters) :
    (s.setCounters f).pending = s.pending := rfl

@[simp] theorem State.setCounters_freeCount (s : State) (f : Counters → Counters) :
    (s.setCounters f).freeCount = s.freeCount := rfl

/-! ### setMemos -/

@[simp] theorem State.setMemos_bays (s : State) (f : Memos → Memos) :
    (s.setMemos f).bays = s.bays := rfl

@[simp] theorem State.setMemos_config (s : State) (f : Memos → Memos) :
    (s.setMemos f).config = s.config := rfl

@[simp] theorem State.setMemos_profiles (s : State) (f : Memos → Memos) :
    (s.setMemos f).profiles = s.profiles := rfl

@[simp] theorem State.setMemos_fal (s : State) (f : Memos → Memos) :
    (s.setMemos f).fal = s.fal := rfl

@[simp] theorem State.setMemos_rot (s : State) (f : Memos → Memos) :
    (s.setMemos f).rot = s.rot := rfl

@[simp] theorem State.setMemos_registry (s : State) (f : Memos → Memos) :
    (s.setMemos f).registry = s.registry := rfl

@[simp] theorem State.setMemos_rdc (s : State) (f : Memos → Memos) :
    (s.setMemos f).rdc = s.rdc := rfl

@[simp] theorem State.setMemos_blc (s : State) (f : Memos → Memos) :
    (s.setMemos f).blc = s.blc := rfl

@[simp] theorem State.setMemos_dlp (s : State) (f : Memos → Memos) :
    (s.setMemos f).dlp = { s.dlp with memos := f s.dlp.memos } := rfl

@[simp] theorem State.setMemos_mgu (s : State) (f : Memos → Memos) :
    (s.setMemos f).mgu = s.mgu := rfl

@[simp] theorem State.setMemos_cmn (s : State) (f : Memos → Memos) :
    (s.setMemos f).cmn = s.cmn := rfl

@[simp] theorem State.setMemos_pending (s : State) (f : Memos → Memos) :
    (s.setMemos f).pending = s.pending := rfl

@[simp] theorem State.setMemos_freeCount (s : State) (f : Memos → Memos) :
    (s.setMemos f).freeCount = s.freeCount := rfl

/-! ### setAssembly -/

@[simp] theorem State.setAssembly_bays (s : State) (b : Bay) (x : Option Assembling) :
    (s.setAssembly b x).bays = s.bays := rfl

@[simp] theorem State.setAssembly_config (s : State) (b : Bay) (x : Option Assembling) :
    (s.setAssembly b x).config = s.config := rfl

@[simp] theorem State.setAssembly_profiles (s : State) (b : Bay) (x : Option Assembling) :
    (s.setAssembly b x).profiles = s.profiles := rfl

@[simp] theorem State.setAssembly_fal (s : State) (b : Bay) (x : Option Assembling) :
    (s.setAssembly b x).fal = s.fal := rfl

@[simp] theorem State.setAssembly_rot (s : State) (b : Bay) (x : Option Assembling) :
    (s.setAssembly b x).rot = s.rot := rfl

@[simp] theorem State.setAssembly_registry (s : State) (b : Bay) (x : Option Assembling) :
    (s.setAssembly b x).registry = s.registry := rfl

@[simp] theorem State.setAssembly_rdc (s : State) (b : Bay) (x : Option Assembling) :
    (s.setAssembly b x).rdc = { s.rdc with assembly := s.rdc.assembly.set b x } := rfl

@[simp] theorem State.setAssembly_blc (s : State) (b : Bay) (x : Option Assembling) :
    (s.setAssembly b x).blc = s.blc := rfl

@[simp] theorem State.setAssembly_dlp (s : State) (b : Bay) (x : Option Assembling) :
    (s.setAssembly b x).dlp = s.dlp := rfl

@[simp] theorem State.setAssembly_mgu (s : State) (b : Bay) (x : Option Assembling) :
    (s.setAssembly b x).mgu = s.mgu := rfl

@[simp] theorem State.setAssembly_cmn (s : State) (b : Bay) (x : Option Assembling) :
    (s.setAssembly b x).cmn = s.cmn := rfl

@[simp] theorem State.setAssembly_pending (s : State) (b : Bay) (x : Option Assembling) :
    (s.setAssembly b x).pending = s.pending := rfl

@[simp] theorem State.setAssembly_freeCount (s : State) (b : Bay) (x : Option Assembling) :
    (s.setAssembly b x).freeCount = s.freeCount := rfl

/-! ### setAlive -/

@[simp] theorem State.setAlive_bays (s : State) (b : Bay) (x : Alive) :
    (s.setAlive b x).bays = s.bays := rfl

@[simp] theorem State.setAlive_config (s : State) (b : Bay) (x : Alive) :
    (s.setAlive b x).config = s.config := rfl

@[simp] theorem State.setAlive_profiles (s : State) (b : Bay) (x : Alive) :
    (s.setAlive b x).profiles = s.profiles := rfl

@[simp] theorem State.setAlive_fal (s : State) (b : Bay) (x : Alive) :
    (s.setAlive b x).fal = s.fal := rfl

@[simp] theorem State.setAlive_rot (s : State) (b : Bay) (x : Alive) :
    (s.setAlive b x).rot = s.rot := rfl

@[simp] theorem State.setAlive_registry (s : State) (b : Bay) (x : Alive) :
    (s.setAlive b x).registry = s.registry := rfl

@[simp] theorem State.setAlive_rdc (s : State) (b : Bay) (x : Alive) :
    (s.setAlive b x).rdc = { s.rdc with alive := s.rdc.alive.set b x } := rfl

@[simp] theorem State.setAlive_blc (s : State) (b : Bay) (x : Alive) :
    (s.setAlive b x).blc = s.blc := rfl

@[simp] theorem State.setAlive_dlp (s : State) (b : Bay) (x : Alive) :
    (s.setAlive b x).dlp = s.dlp := rfl

@[simp] theorem State.setAlive_mgu (s : State) (b : Bay) (x : Alive) :
    (s.setAlive b x).mgu = s.mgu := rfl

@[simp] theorem State.setAlive_cmn (s : State) (b : Bay) (x : Alive) :
    (s.setAlive b x).cmn = s.cmn := rfl

@[simp] theorem State.setAlive_pending (s : State) (b : Bay) (x : Alive) :
    (s.setAlive b x).pending = s.pending := rfl

@[simp] theorem State.setAlive_freeCount (s : State) (b : Bay) (x : Alive) :
    (s.setAlive b x).freeCount = s.freeCount := rfl

/-! ### modFal -/

@[simp] theorem State.modFal_bays (s : State) (f : Fal → Fal) :
    (s.modFal f).bays = s.bays := rfl

@[simp] theorem State.modFal_config (s : State) (f : Fal → Fal) :
    (s.modFal f).config = s.config := rfl

@[simp] theorem State.modFal_profiles (s : State) (f : Fal → Fal) :
    (s.modFal f).profiles = s.profiles := rfl

@[simp] theorem State.modFal_fal (s : State) (f : Fal → Fal) :
    (s.modFal f).fal = f s.fal := rfl

@[simp] theorem State.modFal_rot (s : State) (f : Fal → Fal) :
    (s.modFal f).rot = s.rot := rfl

@[simp] theorem State.modFal_registry (s : State) (f : Fal → Fal) :
    (s.modFal f).registry = s.registry := rfl

@[simp] theorem State.modFal_rdc (s : State) (f : Fal → Fal) :
    (s.modFal f).rdc = s.rdc := rfl

@[simp] theorem State.modFal_blc (s : State) (f : Fal → Fal) :
    (s.modFal f).blc = s.blc := rfl

@[simp] theorem State.modFal_dlp (s : State) (f : Fal → Fal) :
    (s.modFal f).dlp = s.dlp := rfl

@[simp] theorem State.modFal_mgu (s : State) (f : Fal → Fal) :
    (s.modFal f).mgu = s.mgu := rfl

@[simp] theorem State.modFal_cmn (s : State) (f : Fal → Fal) :
    (s.modFal f).cmn = s.cmn := rfl

@[simp] theorem State.modFal_pending (s : State) (f : Fal → Fal) :
    (s.modFal f).pending = s.pending := rfl

@[simp] theorem State.modFal_freeCount (s : State) (f : Fal → Fal) :
    (s.modFal f).freeCount = s.freeCount := rfl

/-! ### modBlc -/

@[simp] theorem State.modBlc_bays (s : State) (f : Blc → Blc) :
    (s.modBlc f).bays = s.bays := rfl

@[simp] theorem State.modBlc_config (s : State) (f : Blc → Blc) :
    (s.modBlc f).config = s.config := rfl

@[simp] theorem State.modBlc_profiles (s : State) (f : Blc → Blc) :
    (s.modBlc f).profiles = s.profiles := rfl

@[simp] theorem State.modBlc_fal (s : State) (f : Blc → Blc) :
    (s.modBlc f).fal = s.fal := rfl

@[simp] theorem State.modBlc_rot (s : State) (f : Blc → Blc) :
    (s.modBlc f).rot = s.rot := rfl

@[simp] theorem State.modBlc_registry (s : State) (f : Blc → Blc) :
    (s.modBlc f).registry = s.registry := rfl

@[simp] theorem State.modBlc_rdc (s : State) (f : Blc → Blc) :
    (s.modBlc f).rdc = s.rdc := rfl

@[simp] theorem State.modBlc_blc (s : State) (f : Blc → Blc) :
    (s.modBlc f).blc = f s.blc := rfl

@[simp] theorem State.modBlc_dlp (s : State) (f : Blc → Blc) :
    (s.modBlc f).dlp = s.dlp := rfl

@[simp] theorem State.modBlc_mgu (s : State) (f : Blc → Blc) :
    (s.modBlc f).mgu = s.mgu := rfl

@[simp] theorem State.modBlc_cmn (s : State) (f : Blc → Blc) :
    (s.modBlc f).cmn = s.cmn := rfl

@[simp] theorem State.modBlc_pending (s : State) (f : Blc → Blc) :
    (s.modBlc f).pending = s.pending := rfl

@[simp] theorem State.modBlc_freeCount (s : State) (f : Blc → Blc) :
    (s.modBlc f).freeCount = s.freeCount := rfl

/-! ### modDlp -/

@[simp] theorem State.modDlp_bays (s : State) (f : Dlp → Dlp) :
    (s.modDlp f).bays = s.bays := rfl

@[simp] theorem State.modDlp_config (s : State) (f : Dlp → Dlp) :
    (s.modDlp f).config = s.config := rfl

@[simp] theorem State.modDlp_profiles (s : State) (f : Dlp → Dlp) :
    (s.modDlp f).profiles = s.profiles := rfl

@[simp] theorem State.modDlp_fal (s : State) (f : Dlp → Dlp) :
    (s.modDlp f).fal = s.fal := rfl

@[simp] theorem State.modDlp_rot (s : State) (f : Dlp → Dlp) :
    (s.modDlp f).rot = s.rot := rfl

@[simp] theorem State.modDlp_registry (s : State) (f : Dlp → Dlp) :
    (s.modDlp f).registry = s.registry := rfl

@[simp] theorem State.modDlp_rdc (s : State) (f : Dlp → Dlp) :
    (s.modDlp f).rdc = s.rdc := rfl

@[simp] theorem State.modDlp_blc (s : State) (f : Dlp → Dlp) :
    (s.modDlp f).blc = s.blc := rfl

@[simp] theorem State.modDlp_dlp (s : State) (f : Dlp → Dlp) :
    (s.modDlp f).dlp = f s.dlp := rfl

@[simp] theorem State.modDlp_mgu (s : State) (f : Dlp → Dlp) :
    (s.modDlp f).mgu = s.mgu := rfl

@[simp] theorem State.modDlp_cmn (s : State) (f : Dlp → Dlp) :
    (s.modDlp f).cmn = s.cmn := rfl

@[simp] theorem State.modDlp_pending (s : State) (f : Dlp → Dlp) :
    (s.modDlp f).pending = s.pending := rfl

@[simp] theorem State.modDlp_freeCount (s : State) (f : Dlp → Dlp) :
    (s.modDlp f).freeCount = s.freeCount := rfl

/-! ### setService -/

@[simp] theorem State.setService_bays (s : State) (v : ServiceState) :
    (s.setService v).bays = s.bays := rfl

@[simp] theorem State.setService_config (s : State) (v : ServiceState) :
    (s.setService v).config = s.config := rfl

@[simp] theorem State.setService_profiles (s : State) (v : ServiceState) :
    (s.setService v).profiles = s.profiles := rfl

@[simp] theorem State.setService_fal (s : State) (v : ServiceState) :
    (s.setService v).fal = s.fal := rfl

@[simp] theorem State.setService_rot (s : State) (v : ServiceState) :
    (s.setService v).rot = s.rot := rfl

@[simp] theorem State.setService_registry (s : State) (v : ServiceState) :
    (s.setService v).registry = s.registry := rfl

@[simp] theorem State.setService_rdc (s : State) (v : ServiceState) :
    (s.setService v).rdc = s.rdc := rfl

@[simp] theorem State.setService_blc (s : State) (v : ServiceState) :
    (s.setService v).blc = s.blc := rfl

@[simp] theorem State.setService_dlp (s : State) (v : ServiceState) :
    (s.setService v).dlp = s.dlp := rfl

@[simp] theorem State.setService_mgu (s : State) (v : ServiceState) :
    (s.setService v).mgu = { s.mgu with service := v } := rfl

@[simp] theorem State.setService_cmn (s : State) (v : ServiceState) :
    (s.setService v).cmn = s.cmn := rfl

@[simp] theorem State.setService_pending (s : State) (v : ServiceState) :
    (s.setService v).pending = s.pending := rfl

@[simp] theorem State.setService_freeCount (s : State) (v : ServiceState) :
    (s.setService v).freeCount = s.freeCount := rfl

/-! ### setNow -/

@[simp] theorem State.setNow_bays (s : State) (t : Time) :
    (s.setNow t).bays = s.bays := rfl

@[simp] theorem State.setNow_config (s : State) (t : Time) :
    (s.setNow t).config = s.config := rfl

@[simp] theorem State.setNow_profiles (s : State) (t : Time) :
    (s.setNow t).profiles = s.profiles := rfl

@[simp] theorem State.setNow_fal (s : State) (t : Time) :
    (s.setNow t).fal = s.fal := rfl

@[simp] theorem State.setNow_rot (s : State) (t : Time) :
    (s.setNow t).rot = s.rot := rfl

@[simp] theorem State.setNow_registry (s : State) (t : Time) :
    (s.setNow t).registry = s.registry := rfl

@[simp] theorem State.setNow_rdc (s : State) (t : Time) :
    (s.setNow t).rdc = s.rdc := rfl

@[simp] theorem State.setNow_blc (s : State) (t : Time) :
    (s.setNow t).blc = s.blc := rfl

@[simp] theorem State.setNow_dlp (s : State) (t : Time) :
    (s.setNow t).dlp = s.dlp := rfl

@[simp] theorem State.setNow_mgu (s : State) (t : Time) :
    (s.setNow t).mgu = { s.mgu with now := t } := rfl

@[simp] theorem State.setNow_cmn (s : State) (t : Time) :
    (s.setNow t).cmn = s.cmn := rfl

@[simp] theorem State.setNow_pending (s : State) (t : Time) :
    (s.setNow t).pending = s.pending := rfl

@[simp] theorem State.setNow_freeCount (s : State) (t : Time) :
    (s.setNow t).freeCount = s.freeCount := rfl

/-! ### pass -/

@[simp] theorem State.pass_bays (s : State) :
    s.pass.bays = s.bays := rfl

@[simp] theorem State.pass_config (s : State) :
    s.pass.config = s.config := rfl

@[simp] theorem State.pass_profiles (s : State) :
    s.pass.profiles = s.profiles := rfl

@[simp] theorem State.pass_fal (s : State) :
    s.pass.fal = s.fal := rfl

@[simp] theorem State.pass_rot (s : State) :
    s.pass.rot = s.rot := rfl

@[simp] theorem State.pass_registry (s : State) :
    s.pass.registry = s.registry := rfl

@[simp] theorem State.pass_rdc (s : State) :
    s.pass.rdc = s.rdc := rfl

@[simp] theorem State.pass_blc (s : State) :
    s.pass.blc = s.blc := rfl

@[simp] theorem State.pass_dlp (s : State) :
    s.pass.dlp = { s.dlp with idleLeft := s.dlp.idleLeft - 1 } := rfl

@[simp] theorem State.pass_mgu (s : State) :
    s.pass.mgu = { s.mgu with now := tickTime s.now } := rfl

@[simp] theorem State.pass_cmn (s : State) :
    s.pass.cmn = s.cmn := rfl

@[simp] theorem State.pass_pending (s : State) :
    s.pass.pending = s.pending := rfl

@[simp] theorem State.pass_freeCount (s : State) :
    s.pass.freeCount = s.freeCount := rfl

/-! ### setXstop -/

@[simp] theorem State.setXstop_bays (s : State) (v : Bool) :
    (s.setXstop v).bays = s.bays := rfl

@[simp] theorem State.setXstop_config (s : State) (v : Bool) :
    (s.setXstop v).config = s.config := rfl

@[simp] theorem State.setXstop_profiles (s : State) (v : Bool) :
    (s.setXstop v).profiles = s.profiles := rfl

@[simp] theorem State.setXstop_fal (s : State) (v : Bool) :
    (s.setXstop v).fal = s.fal := rfl

@[simp] theorem State.setXstop_rot (s : State) (v : Bool) :
    (s.setXstop v).rot = s.rot := rfl

@[simp] theorem State.setXstop_registry (s : State) (v : Bool) :
    (s.setXstop v).registry = s.registry := rfl

@[simp] theorem State.setXstop_rdc (s : State) (v : Bool) :
    (s.setXstop v).rdc = s.rdc := rfl

@[simp] theorem State.setXstop_blc (s : State) (v : Bool) :
    (s.setXstop v).blc = s.blc := rfl

@[simp] theorem State.setXstop_dlp (s : State) (v : Bool) :
    (s.setXstop v).dlp = s.dlp := rfl

@[simp] theorem State.setXstop_mgu (s : State) (v : Bool) :
    (s.setXstop v).mgu = s.mgu := rfl

@[simp] theorem State.setXstop_cmn (s : State) (v : Bool) :
    (s.setXstop v).cmn = { s.cmn with xstop := v } := rfl

@[simp] theorem State.setXstop_pending (s : State) (v : Bool) :
    (s.setXstop v).pending = s.pending := rfl

@[simp] theorem State.setXstop_freeCount (s : State) (v : Bool) :
    (s.setXstop v).freeCount = s.freeCount := rfl

/-! ### setMap -/

@[simp] theorem State.setMap_bays (s : State) (m : RelayMap) :
    (s.setMap m).bays = s.bays := rfl

@[simp] theorem State.setMap_config (s : State) (m : RelayMap) :
    (s.setMap m).config = s.config := rfl

@[simp] theorem State.setMap_profiles (s : State) (m : RelayMap) :
    (s.setMap m).profiles = s.profiles := rfl

@[simp] theorem State.setMap_fal (s : State) (m : RelayMap) :
    (s.setMap m).fal = s.fal := rfl

@[simp] theorem State.setMap_rot (s : State) (m : RelayMap) :
    (s.setMap m).rot = s.rot := rfl

@[simp] theorem State.setMap_registry (s : State) (m : RelayMap) :
    (s.setMap m).registry = s.registry := rfl

@[simp] theorem State.setMap_rdc (s : State) (m : RelayMap) :
    (s.setMap m).rdc = s.rdc := rfl

@[simp] theorem State.setMap_blc (s : State) (m : RelayMap) :
    (s.setMap m).blc = s.blc := rfl

@[simp] theorem State.setMap_dlp (s : State) (m : RelayMap) :
    (s.setMap m).dlp = { s.dlp with map := m, counters := s.dlp.counters.afterWrite s.dlp.map m, memos := s.dlp.memos.afterWrite s.dlp.map m } := rfl

@[simp] theorem State.setMap_mgu (s : State) (m : RelayMap) :
    (s.setMap m).mgu = s.mgu := rfl

@[simp] theorem State.setMap_cmn (s : State) (m : RelayMap) :
    (s.setMap m).cmn = s.cmn := rfl

@[simp] theorem State.setMap_pending (s : State) (m : RelayMap) :
    (s.setMap m).pending = s.pending := rfl

@[simp] theorem State.setMap_freeCount (s : State) (m : RelayMap) :
    (s.setMap m).freeCount = s.freeCount := rfl

/-! ### Bay records -/

@[simp] theorem State.bay_setBay_self (s : State) (b : Bay) (r : BayRecord) : (s.setBay b r).bay b = r := by
  simp [State.bay]

theorem State.bay_setBay_ne (s : State) {b c : Bay} (r : BayRecord) (h : c ≠ b) : (s.setBay b r).bay c = s.bay c := by
  simp [State.bay, Table.get_set_ne _ _ h]

@[simp] theorem State.bay_modBay_self (s : State) (b : Bay) (f : BayRecord → BayRecord) :
    (s.modBay b f).bay b = f (s.bay b) := by
  simp [State.bay]

theorem State.bay_modBay_ne (s : State) {b c : Bay} (f : BayRecord → BayRecord) (h : c ≠ b) :
    (s.modBay b f).bay c = s.bay c := by
  simp [State.bay, Table.get_set_ne _ _ h]

@[simp] theorem State.bay_modBays (s : State) (f : Bay → BayRecord → BayRecord) (b : Bay) :
    (s.modBays f).bay b = f b (s.bay b) := by
  simp [State.bay]

@[simp] theorem State.release_setRelease_self (s : State) (b : Bay) (r : Option ReleaseRecord) :
    (s.setRelease b r).release b = r := by
  simp [State.release]

theorem State.release_setRelease_ne (s : State) {b c : Bay} (r : Option ReleaseRecord) (h : c ≠ b) :
    (s.setRelease b r).release c = s.release c := by
  simp [State.release, Table.get_set_ne _ _ h]

end Sys2Proof.Machine
end

