-- ==== Sys2Proof/Laws/Quiet.lean ====
section
/-! SUPPORT. What a request for a line entry, an evaluation, a round, a raise and a notice can do, said once: they change the
grants and setpoints of bays, the effective budget and headroom, the Bay Line transmit queue, the conditions and hold, and
the Depot Link transmit queue with its send count and on-change memory. They leave everything else alone. -/

namespace Sys2Proof.Machine

open Sys2Proof.Safety

/-- What the shared operations named above leave alone between two states. -/
structure Quiet (s t : State) : Prop where
  bays : ∀ b, withoutGrants (t.bay b) = withoutGrants (s.bay b)
  config : t.config = s.config
  profiles : t.profiles = s.profiles
  registry : t.registry = s.registry
  rot : t.rot = s.rot
  rdc : t.rdc = s.rdc
  mgu : t.mgu = s.mgu
  pending : t.pending = s.pending
  freeCount : t.freeCount = s.freeCount
  budget : t.fal.budget = s.fal.budget
  meterArrival : t.fal.meterArrival = s.fal.meterArrival
  meterSilent : t.fal.meterSilent = s.fal.meterSilent
  feederOver : t.fal.feederOver = s.fal.feederOver
  overRun : t.fal.overRun = s.fal.overRun
  line : { t.blc with tx := s.blc.tx } = s.blc
  receiver : t.dlp.receiver = s.dlp.receiver
  dlpRx : t.dlp.rx = s.dlp.rx
  sending : t.dlp.sending = s.dlp.sending
  idleLeft : t.dlp.idleLeft = s.dlp.idleLeft
  map : t.dlp.map = s.dlp.map
  counters : t.dlp.counters = s.dlp.counters
  alarm : t.cmn.map = s.cmn.map
  xstop : t.cmn.xstop = s.cmn.xstop
  hold : s.cmn.hold = true → t.cmn.hold = true

theorem Quiet.refl (s : State) : Quiet s s := by
  constructor <;> intros <;> first | rfl | assumption

theorem Quiet.trans {s t u : State} (h : Quiet s t) (k : Quiet t u) : Quiet s u where
  bays b := (k.bays b).trans (h.bays b)
  config := k.config.trans h.config
  profiles := k.profiles.trans h.profiles
  registry := k.registry.trans h.registry
  rot := k.rot.trans h.rot
  rdc := k.rdc.trans h.rdc
  mgu := k.mgu.trans h.mgu
  pending := k.pending.trans h.pending
  freeCount := k.freeCount.trans h.freeCount
  budget := k.budget.trans h.budget
  meterArrival := k.meterArrival.trans h.meterArrival
  meterSilent := k.meterSilent.trans h.meterSilent
  feederOver := k.feederOver.trans h.feederOver
  overRun := k.overRun.trans h.overRun
  line := by
    have a := h.line
    have b := k.line
    rw [← b] at a
    exact a
  receiver := k.receiver.trans h.receiver
  dlpRx := k.dlpRx.trans h.dlpRx
  sending := k.sending.trans h.sending
  idleLeft := k.idleLeft.trans h.idleLeft
  map := k.map.trans h.map
  counters := k.counters.trans h.counters
  alarm := k.alarm.trans h.alarm
  xstop := k.xstop.trans h.xstop
  hold e := k.hold (h.hold e)

/-- A fold of quiet steps is quiet. -/
theorem Quiet.foldl {α : Type} {f : State → α → State} (h : ∀ s a, Quiet s (f s a)) (l : List α) (s : State) :
    Quiet s (l.foldl f s) := by
  induction l generalizing s with
  | nil => exact Quiet.refl s
  | cons a l ih => exact (h s a).trans (ih _)

/-! ## The transmit queue and the setpoint -/

theorem State.setTx_quiet (s : State) (tx : List TxEntry) : Quiet s (s.setTx tx) := by
  constructor <;> intros <;> first | rfl | assumption

theorem State.requestSingle_quiet (s : State) (w : TxWhat) : Quiet s (s.requestSingle w) := by
  unfold State.requestSingle; split <;> exact s.setTx_quiet _

theorem State.requestLatch_quiet (s : State) (b : Bay) (c : LatchCommand) : Quiet s (s.requestLatch b c).1 := by
  unfold State.requestLatch
  split
  · exact s.setTx_quiet _
  · split
    · exact s.setTx_quiet _
    · exact Quiet.refl s

theorem State.requestService_quiet (s : State) (b : Bay) (p : List Byte) : Quiet s (s.requestService b p).1 := by
  unfold State.requestService
  split
  · exact s.setTx_quiet _
  · exact Quiet.refl s

/-- A change of one bay record that leaves the fields outside grants and setpoint. -/
theorem State.modBay_quiet (s : State) (b : Bay) (f : BayRecord → BayRecord)
    (h : ∀ r, withoutGrants (f r) = withoutGrants r) : Quiet s (s.modBay b f) := by
  refine ⟨?_, rfl, rfl, rfl, rfl, rfl, rfl, rfl, rfl, rfl, rfl, rfl, rfl, rfl, rfl, rfl, rfl, rfl, rfl, rfl, rfl, rfl, rfl, id⟩
  intro c
  by_cases e : c = b
  · subst e; simp [h]
  · rw [s.bay_modBay_ne f e]

/-- A change of all bay records that leaves the fields outside grants and setpoint. -/
theorem State.modBays_quiet (s : State) (f : Bay → BayRecord → BayRecord)
    (h : ∀ b r, withoutGrants (f b r) = withoutGrants r) : Quiet s (s.modBays f) := by
  refine ⟨?_, rfl, rfl, rfl, rfl, rfl, rfl, rfl, rfl, rfl, rfl, rfl, rfl, rfl, rfl, rfl, rfl, rfl, rfl, rfl, rfl, rfl, rfl, id⟩
  intro c
  simp [h]

theorem State.evalSetpoint_quiet (s : State) (b : Bay) : Quiet s (s.evalSetpoint b) := by
  unfold State.evalSetpoint
  split
  · exact Quiet.refl s
  · exact (s.modBay_quiet b (fun r => { r with setpoint := s.setpointFor b }) fun _ => rfl).trans
      (State.requestSingle_quiet _ _)

theorem State.evalAllSetpoints_quiet (s : State) : Quiet s s.evalAllSetpoints :=
  Quiet.foldl (fun s b => s.evalSetpoint_quiet b) allBays s

/-! ## Rounds and budgets -/

/-- A change of the effective budget and the headroom alone. -/
theorem State.budget_quiet (s : State) (e h : Nat) :
    Quiet s { s with fal := { s.fal with effective := e, headroom := h } } := by
  constructor <;> intros <;> first | rfl | assumption

theorem State.recomputeBudget_quiet (s : State) : Quiet s s.recomputeBudget := s.budget_quiet _ _

theorem State.writeGrants_quiet (s : State) : Quiet s s.writeGrants :=
  (s.modBays_quiet (fun b r => r.allot (s.allotment b)) fun _ _ => rfl).trans (State.budget_quiet _ _ _)

theorem State.round_quiet (s : State) : Quiet s s.round := by
  refine s.writeGrants_quiet.trans (Quiet.foldl (fun t b => ?_) allBays _)
  split
  · exact t.evalSetpoint_quiet b
  · exact Quiet.refl t

theorem State.askRound_quiet (s : State) : Quiet s s.askRound := by
  unfold State.askRound
  split
  · exact s.round_quiet
  · exact Quiet.refl s

theorem State.zeroGrants_quiet (s : State) : Quiet s s.zeroGrants :=
  (s.modBays_quiet (fun _ r => { r with applied := 0, granted := 0 }) fun _ _ => rfl).trans (State.budget_quiet _ _ _)

theorem State.clearGrants_quiet (s : State) : Quiet s s.clearGrants :=
  (s.modBays_quiet (fun _ r => { r with applied := 0, granted := 0, demand := 0, urgency := none })
    fun _ _ => rfl).trans (State.budget_quiet _ _ _)

/-! ## Raises and notices -/

/-- A change of the flags, the hold flag, the hold origin set or TRIP: the alarm map and XSTOP stay, and hold is not left. -/
theorem State.cmn_quiet (s : State) (c : Cmn) (hm : c.map = s.cmn.map) (hx : c.xstop = s.cmn.xstop)
    (hh : s.cmn.hold = true → c.hold = true) : Quiet s { s with cmn := c } :=
  ⟨fun _ => rfl, rfl, rfl, rfl, rfl, rfl, rfl, rfl, rfl, rfl, rfl, rfl, rfl, rfl, rfl, rfl, rfl, rfl, rfl, rfl, rfl, hm, hx, hh⟩

/-- A change of the groups of the Depot Link transmit queue, of the send count or of the on-change memory. -/
theorem State.dlp_quiet (s : State) (d : Dlp) (h1 : d.receiver = s.dlp.receiver) (h2 : d.rx = s.dlp.rx)
    (h3 : d.sending = s.dlp.sending) (h4 : d.idleLeft = s.dlp.idleLeft) (h5 : d.map = s.dlp.map)
    (h6 : d.counters = s.dlp.counters) : Quiet s { s with dlp := d } :=
  ⟨fun _ => rfl, rfl, rfl, rfl, rfl, rfl, rfl, rfl, rfl, rfl, rfl, rfl, rfl, rfl, rfl, h1, h2, h3, h4, h5, h6, rfl, rfl, id⟩

theorem State.setFlags_quiet (s : State) (id : CondId) (f : Flags) : Quiet s (s.setFlags id f) := by
  cases id <;> exact s.cmn_quiet _ rfl rfl (fun h => h)

theorem State.recomputeTrip_quiet (s : State) : Quiet s s.recomputeTrip := s.cmn_quiet _ rfl rfl (fun h => h)

theorem State.endCause_quiet (s : State) (id : CondId) : Quiet s (s.endCause id) := s.setFlags_quiet _ _

theorem State.addOrigin_quiet (s : State) (id : CondId) : Quiet s { s with cmn := s.cmn.addOrigin id } := by
  cases id <;> exact s.cmn_quiet _ rfl rfl (fun h => h)

theorem State.countedFrame_quiet (s : State) (kind : Nat) (p : List Byte) : Quiet s (s.countedFrame kind p).1 :=
  s.dlp_quiet _ rfl rfl rfl rfl rfl rfl

/-- What placing a frame leaves of the Depot Link Port. -/
theorem Dlp.placeUpper_quiet (s : State) (f : DepotFrame) : Quiet s { s with dlp := (s.dlp.placeUpper f).1 } := by
  unfold Dlp.placeUpper
  split
  · exact s.dlp_quiet _ rfl rfl rfl rfl rfl rfl
  · split
    · split
      · exact Quiet.refl s
      · exact s.dlp_quiet _ rfl rfl rfl rfl rfl rfl
    · exact Quiet.refl s

theorem Dlp.placeRelay_quiet (s : State) (i : RelayItem) : Quiet s { s with dlp := (s.dlp.placeRelay i).1 } := by
  unfold Dlp.placeRelay
  split <;> exact s.dlp_quiet _ rfl rfl rfl rfl rfl rfl

section Raising

variable {enqueue : State → DepotFrame → State} (hq : ∀ s f, Quiet s (enqueue s f))
include hq

theorem State.noticeWith_quiet (s : State) (kind : Nat) (p : List Byte) : Quiet s (s.noticeWith enqueue kind p) :=
  (s.countedFrame_quiet kind p).trans (hq _ _)

theorem State.enterHoldWith_quiet (s : State) (id : CondId) : Quiet s (s.enterHoldWith enqueue id) := by
  have h1 : Quiet s { s with cmn := { s.cmn.clearOrigin.addOrigin id with hold := true } } := by
    cases id <;> exact s.cmn_quiet _ rfl rfl (fun _ => rfl)
  refine h1.trans ?_
  refine Quiet.trans ?_ (State.noticeWith_quiet hq _ _ _)
  exact (State.requestSingle_quiet _ _).trans ((State.zeroGrants_quiet _).trans (State.evalAllSetpoints_quiet _))

theorem State.holdRuleWith_quiet (s : State) (id : CondId) : Quiet s (s.holdRuleWith enqueue id) := by
  unfold State.holdRuleWith
  split
  · split
    · exact s.addOrigin_quiet id
    · exact State.enterHoldWith_quiet hq s id
  · exact Quiet.refl s

theorem State.raiseWith_quiet (s : State) (id : CondId) (present : Bool) : Quiet s (s.raiseWith enqueue id present) := by
  unfold State.raiseWith
  have h2 : ∀ t : State, Quiet s t → Quiet s (if present then t.setFlags id ⟨true, true⟩ else t).recomputeTrip := by
    intro t ht
    split
    · exact (ht.trans (t.setFlags_quiet _ _)).trans (State.recomputeTrip_quiet _)
    · exact ht.trans t.recomputeTrip_quiet
  by_cases hl : (s.flags id).latched = true
  · simp only [hl, if_true]
    exact h2 _ (s.setFlags_quiet _ _)
  · simp only [hl]
    exact (h2 _ ((s.setFlags_quiet _ _).trans (State.noticeWith_quiet hq _ _ _))).trans (State.holdRuleWith_quiet hq _ _)

end Raising

theorem State.admitUpperN_quiet (n : Nat) : ∀ s f, Quiet s (State.admitUpperN n s f) := by
  induction n with
  | zero => intro s f; exact Dlp.placeUpper_quiet s f
  | succ n ih =>
    intro s f
    unfold State.admitUpperN
    refine (Dlp.placeUpper_quiet s f).trans ?_
    dsimp only
    split
    · exact Quiet.refl _
    · exact State.raiseWith_quiet ih _ _ _

theorem State.admitUpper_quiet (s : State) (f : DepotFrame) : Quiet s (s.admitUpper f) := State.admitUpperN_quiet 3 s f

theorem State.raise_quiet (s : State) (id : CondId) (present : Bool) : Quiet s (s.raise id present) :=
  State.raiseWith_quiet State.admitUpper_quiet s id present

theorem State.notice_quiet (s : State) (kind : Nat) (p : List Byte) : Quiet s (s.notice kind p) :=
  State.noticeWith_quiet State.admitUpper_quiet s kind p

theorem State.releaseNotice_quiet (s : State) (tag : Option Nat) (o : ReleaseOutcome) (b : Option Bay) :
    Quiet s (s.releaseNotice tag o b) := s.notice_quiet _ _

theorem State.answer_quiet (s : State) (f : DepotFrame) (r : Result) (extra : List Byte) :
    Quiet s (s.answer f r extra) := s.admitUpper_quiet _

theorem State.sendRelay_quiet (s : State) (kind : Nat) (p : List Byte) (second : Option (Nat × List Byte))
    (memo : Option MemoRef) : Quiet s (s.sendRelay kind p second memo) := by
  have place : ∀ (t : State) (i : RelayItem), Quiet s t →
      Quiet s (match (t.dlp.placeRelay i).2 with
        | none => { t with dlp := (t.dlp.placeRelay i).1 }
        | some k => { t with dlp := (t.dlp.placeRelay i).1 }.raise (.depot k) false) := by
    intro t i h
    have hp := h.trans (Dlp.placeRelay_quiet t i)
    split
    · exact hp
    · exact hp.trans (State.raise_quiet _ _ _)
  cases second with
  | none => exact place _ _ (s.countedFrame_quiet kind p)
  | some q => exact place _ _ ((s.countedFrame_quiet kind p).trans (State.countedFrame_quiet _ q.1 q.2))

/-! ## A queue with room -/

/-- An answer or a notice that finds a place joins the upper group, and nothing else changes (R142). -/
theorem State.admitUpper_room (s : State) (f : DepotFrame) (h : Room s) : s.admitUpper f = queuedUpper s f := by
  have h' : s.dlp.queued < 32 := h
  simp [State.admitUpper, State.admitUpperN, Dlp.placeUpper, h', queuedUpper, Dlp.joinUpper]

/-- An answer that finds a place (R136, R142). -/
theorem State.answer_room (s : State) (f : DepotFrame) (r : Result) (extra : List Byte) (h : Room s) :
    s.answer f r extra = queuedUpper s (answerFrame f r extra) := s.admitUpper_room _ h

end Sys2Proof.Machine
end

