-- ==== Sys2Proof/Laws/Calm.lean ====
section
/-! SUPPORT. What the state entry of a bay, a release and the handling of a dock report leave alone, said once: the bay
configuration, the profiles, the Management Unit, the settings, the line state, the Depot Link Port's receiver and the
sending of frames, XSTOP, the waiting commands and the count of free values. -/

namespace Sys2Proof.Machine

open Sys2Proof.Safety

/-- What every event of a bay leaves alone between two states. -/
structure Calm (s t : State) : Prop where
  config : t.config = s.config
  profiles : t.profiles = s.profiles
  mgu : t.mgu = s.mgu
  pending : t.pending = s.pending
  freeCount : t.freeCount = s.freeCount
  budget : t.fal.budget = s.fal.budget
  line : { t.blc with tx := s.blc.tx } = s.blc
  receiver : t.dlp.receiver = s.dlp.receiver
  dlpRx : t.dlp.rx = s.dlp.rx
  sending : t.dlp.sending = s.dlp.sending
  idleLeft : t.dlp.idleLeft = s.dlp.idleLeft
  map : t.dlp.map = s.dlp.map
  shiftCall : t.rot.shiftCall = s.rot.shiftCall
  alarm : t.cmn.map = s.cmn.map
  xstop : t.cmn.xstop = s.cmn.xstop
  hold : s.cmn.hold = true → t.cmn.hold = true

theorem Quiet.calm {s t : State} (h : Quiet s t) : Calm s t :=
  ⟨h.config, h.profiles, h.mgu, h.pending, h.freeCount, h.budget, h.line, h.receiver, h.dlpRx, h.sending, h.idleLeft, h.map,
    congrArg Rot.shiftCall h.rot, h.alarm, h.xstop, h.hold⟩

theorem Calm.refl (s : State) : Calm s s := (Quiet.refl s).calm

theorem Calm.trans {s t u : State} (h : Calm s t) (k : Calm t u) : Calm s u where
  config := k.config.trans h.config
  profiles := k.profiles.trans h.profiles
  mgu := k.mgu.trans h.mgu
  pending := k.pending.trans h.pending
  freeCount := k.freeCount.trans h.freeCount
  budget := k.budget.trans h.budget
  line := by
    have a := h.line
    have b := k.line
    rw [← b] at a
    exact a
  receiver := k.receiver.trans h.receiver
  dlpRx := k.dlpRx.trans h.dlpRx
  sending := k.sending.trans h.sending
  idleLeft := k.idleLeft.trans h.idleLeft
  map := k.map.trans h.map
  shiftCall := k.shiftCall.trans h.shiftCall
  alarm := k.alarm.trans h.alarm
  xstop := k.xstop.trans h.xstop
  hold e := k.hold (h.hold e)

theorem Calm.foldl {α : Type} {f : State → α → State} (h : ∀ s a, Calm s (f s a)) (l : List α) (s : State) :
    Calm s (l.foldl f s) := by
  induction l generalizing s with
  | nil => exact Calm.refl s
  | cons a l ih => exact (h s a).trans (ih _)

/-- An update of fields that this relation does not hold. -/
theorem Calm.other (s : State) (bays : Table 16 BayRecord) (registry : Table 128 (Option RegEntry)) (rdc : Rdc)
    (ready : List Bay) (waiting : List WaitEntry) (releases : Table 16 (Option ReleaseRecord)) (counters : Counters)
    (memos : Memos) :
    Calm s { s with
      bays := bays, registry := registry, rdc := rdc
      rot := { s.rot with ready := ready, waiting := waiting, releases := releases }
      dlp := { s.dlp with counters := counters, memos := memos } } := by
  constructor <;> intros <;> first | rfl | assumption

theorem State.setBay_calm (s : State) (b : Bay) (r : BayRecord) : Calm s (s.setBay b r) :=
  Calm.other s _ s.registry s.rdc s.rot.ready s.rot.waiting s.rot.releases s.dlp.counters s.dlp.memos

theorem State.modBay_calm (s : State) (b : Bay) (f : BayRecord → BayRecord) : Calm s (s.modBay b f) := s.setBay_calm _ _

theorem State.modBays_calm (s : State) (f : Bay → BayRecord → BayRecord) : Calm s (s.modBays f) :=
  Calm.other s _ s.registry s.rdc s.rot.ready s.rot.waiting s.rot.releases s.dlp.counters s.dlp.memos

theorem State.modSession_calm (s : State) (b : Bay) (f : Session → Session) : Calm s (s.modSession b f) :=
  s.modBay_calm _ _

theorem State.unlist_calm (s : State) (b : Bay) : Calm s (s.unlist b) :=
  Calm.other s s.bays s.registry s.rdc _ s.rot.waiting s.rot.releases s.dlp.counters s.dlp.memos

theorem State.joinReady_calm (s : State) (b : Bay) : Calm s (s.joinReady b) :=
  Calm.other s s.bays s.registry s.rdc _ s.rot.waiting s.rot.releases s.dlp.counters s.dlp.memos

theorem State.setWaiting_calm (s : State) (w : List WaitEntry) : Calm s (s.setWaiting w) :=
  Calm.other s s.bays s.registry s.rdc s.rot.ready _ s.rot.releases s.dlp.counters s.dlp.memos

theorem State.setRelease_calm (s : State) (b : Bay) (r : Option ReleaseRecord) : Calm s (s.setRelease b r) :=
  Calm.other s s.bays s.registry s.rdc s.rot.ready s.rot.waiting _ s.dlp.counters s.dlp.memos

theorem State.setCounters_calm (s : State) (f : Counters → Counters) : Calm s (s.setCounters f) :=
  Calm.other s s.bays s.registry s.rdc s.rot.ready s.rot.waiting s.rot.releases _ s.dlp.memos

theorem State.setMemos_calm (s : State) (f : Memos → Memos) : Calm s (s.setMemos f) :=
  Calm.other s s.bays s.registry s.rdc s.rot.ready s.rot.waiting s.rot.releases s.dlp.counters _

theorem State.setAssembly_calm (s : State) (b : Bay) (x : Option Assembling) : Calm s (s.setAssembly b x) :=
  Calm.other s s.bays s.registry _ s.rot.ready s.rot.waiting s.rot.releases s.dlp.counters s.dlp.memos

theorem State.setAlive_calm (s : State) (b : Bay) (x : Alive) : Calm s (s.setAlive b x) :=
  Calm.other s s.bays s.registry _ s.rot.ready s.rot.waiting s.rot.releases s.dlp.counters s.dlp.memos

/-! ## State entry -/

theorem State.setNoData_calm (s : State) (b : Bay) : Calm s (s.setNoData b) :=
  (s.modBay_calm _ _).trans ((State.raise_quiet _ _ _).trans (State.evalSetpoint_quiet _ _)).calm

theorem State.endNoData_calm (s : State) (b : Bay) : Calm s (s.endNoData b) := by
  unfold State.endNoData
  split
  · exact (s.modBay_calm b (fun r => { r with noData := false, escalation := none })).trans
      ((State.endCause_quiet _ _).trans (State.evalSetpoint_quiet _ _)).calm
  · exact Calm.refl s

theorem State.bayStateNotice_calm (s : State) (b : Bay) (p : BayState) : Calm s (s.bayStateNotice b p) := by
  unfold State.bayStateNotice
  dsimp only
  split
  · exact (s.setCounters_calm _).trans (State.notice_quiet _ _ _).calm
  · exact s.setCounters_calm _

theorem State.endStateCauses_quiet (s : State) (b : Bay) (p n : BayState) : Quiet s (s.endStateCauses b p n) := by
  unfold State.endStateCauses
  dsimp only
  split <;> split
  · exact (State.endCause_quiet _ _).trans (State.endCause_quiet _ _)
  · exact State.endCause_quiet _ _
  · exact State.endCause_quiet _ _
  · exact Quiet.refl s

theorem State.enterBase_calm (s : State) (b : Bay) (n : BayState) (o : Option Origin) : Calm s (s.enterBase b n o) := by
  unfold State.enterBase
  have h1 : Calm s ((((s.modBay b (s.entered n o)).endStateCauses b (s.bay b).state n).evalSetpoint b).bayStateNotice b
      (s.bay b).state) :=
    (s.modBay_calm _ _).trans ((State.endStateCauses_quiet _ _ _ _).calm.trans
      ((State.evalSetpoint_quiet _ _).calm.trans (State.bayStateNotice_calm _ _ _)))
  have h2 : ∀ t, Calm s t → ∀ c : Bool, Calm s (if c then t.setNoData b else t) := by
    intro t h c; cases c
    · exact h
    · exact h.trans (t.setNoData_calm b)
  have h3 : ∀ t, Calm s t → ∀ c : Bool, Calm s (if c then t.askRound else t) := by
    intro t h c; cases c
    · exact h
    · exact h.trans t.askRound_quiet.calm
  dsimp only
  split
  · exact ((h3 _ (h2 _ h1 _) _).trans (State.unlist_calm _ _)).trans (State.askRound_quiet _).calm
  · exact h3 _ (h2 _ h1 _) _

theorem State.withdrawUnlatch_quiet (s : State) (b : Bay) : Quiet s (s.withdrawUnlatch b) := s.setTx_quiet _

theorem State.closeRelease_calm (s : State) (b : Bay) : Calm s (s.closeRelease b) :=
  (s.setRelease_calm _ _).trans (State.withdrawUnlatch_quiet _ _).calm

/-! ## Releases -/

theorem State.openRelease_calm (s : State) (b : Bay) (how : Start) : Calm s (s.openRelease b how) := by
  unfold State.openRelease
  refine Calm.trans ?_ (State.enterBase_calm _ _ _ _)
  refine Calm.trans ?_ (State.setRelease_calm _ _ _)
  cases how
  · exact s.unlist_calm b
  · exact (s.unlist_calm b).trans (State.setWaiting_calm _ _)
  · exact s.unlist_calm b
  · exact s.unlist_calm b

section Starting

variable {start : State → Bay → Start → State} (hs : ∀ s b h, Calm s (start s b h))
include hs

theorem State.requeueWith_calm (s : State) (b : Bay) (q : Request) (o : ReleaseOutcome) :
    Calm s (s.requeueWith start b q o) := by
  unfold State.requeueWith
  split
  · exact hs _ _ _
  · split
    · exact (State.releaseNotice_quiet _ _ _ _).calm
    · exact (s.setWaiting_calm _).trans ((State.askRound_quiet _).trans (State.releaseNotice_quiet _ _ _ _)).calm

theorem State.endFailedWith_calm (s : State) (b : Bay) (r : ReleaseRecord) (o : ReleaseOutcome) :
    Calm s (s.endFailedWith start b r o) := by
  unfold State.endFailedWith
  split
  · exact (State.releaseNotice_quiet _ _ _ _).calm
  · exact State.requeueWith_calm hs _ _ _ _
  · exact Calm.refl s

theorem State.latchFailureWith_calm (s : State) (b : Bay) (r : ReleaseRecord) : Calm s (s.latchFailureWith start b r) := by
  unfold State.latchFailureWith
  refine Calm.trans ?_ (State.endFailedWith_calm hs _ _ _ _)
  exact ((s.requestLatch_quiet _ _).trans (State.raise_quiet _ _ _)).calm.trans
    ((State.enterBase_calm _ _ _ _).trans (State.closeRelease_calm _ _))

end Starting

theorem State.startReleaseN_calm (n : Nat) : ∀ s b h, Calm s (State.startReleaseN n s b h) := by
  induction n with
  | zero => intro s b h; exact Calm.refl s
  | succ n ih =>
    intro s b h
    unfold State.startReleaseN
    have ha : Calm s ((s.openRelease b h).requestLatch b .unlatch).1 :=
      (s.openRelease_calm b h).trans (State.requestLatch_quiet _ _ _).calm
    have hr : ∀ t, Calm s t → ∀ c : Bool, Calm s (if c then t.askRound else t) := by
      intro t k c; cases c
      · exact k
      · exact k.trans t.askRound_quiet.calm
    dsimp only
    refine hr _ ?_ _
    split
    · split
      · exact ha.trans (State.releaseNotice_quiet _ _ _ _).calm
      · exact ha
    · exact ha.trans (State.latchFailureWith_calm ih _ _ _)

theorem State.startRelease_calm (s : State) (b : Bay) (h : Start) : Calm s (s.startRelease b h) :=
  State.startReleaseN_calm 17 s b h

theorem State.readyEntered_calm (s : State) (b : Bay) : Calm s (s.readyEntered b) := by
  unfold State.readyEntered
  split
  · exact Calm.refl s
  · split
    · exact s.startRelease_calm _ _
    · exact (s.joinReady_calm b).trans (State.askRound_quiet _).calm

theorem State.enterState_calm (s : State) (b : Bay) (n : BayState) : Calm s (s.enterState b n) := by
  unfold State.enterState
  have h := s.enterBase_calm b n none
  have hc : Calm s (if (s.bay b).state = .releasing then (s.enterBase b n none).closeRelease b
      else s.enterBase b n none) := by
    split
    · exact h.trans (State.closeRelease_calm _ _)
    · exact h
  dsimp only
  split
  · exact hc.trans (State.readyEntered_calm _ _)
  · exact hc

theorem State.latchFailure_calm (s : State) (b : Bay) (r : ReleaseRecord) : Calm s (s.latchFailure b r) :=
  State.latchFailureWith_calm State.startRelease_calm s b r

theorem State.relatchFailure_calm (s : State) (b : Bay) : Calm s (s.relatchFailure b) :=
  (s.raise_quiet _ _).calm.trans (State.enterState_calm _ _ _)

theorem State.returnToOrigin_calm (s : State) (b : Bay) (r : ReleaseRecord) : Calm s (s.returnToOrigin b r) :=
  (s.modBay_calm _ _).trans (State.enterState_calm _ _ _)

theorem State.notCollected_calm (s : State) (b : Bay) (r : ReleaseRecord) : Calm s (s.notCollected b r) :=
  (s.releaseNotice_quiet _ _ _).calm.trans (State.setRelease_calm _ _ _)

theorem State.pickupEnded_calm (s : State) (b : Bay) (r : ReleaseRecord) : Calm s (s.pickupEnded b r) := by
  unfold State.pickupEnded
  have h := (s.notCollected_calm b r).trans
    ((State.requestLatch_quiet (s.notCollected b r) b .relatch).calm.trans
      (State.setRelease_calm ((s.notCollected b r).requestLatch b .relatch).1 b
        (some { { r with request := none } with
          phase := .relatching
          deadline := ((s.notCollected b r).requestLatch b .relatch).1.deadline Phase.relatching.time })))
  dsimp only
  split
  · exact h
  · exact h.trans (State.relatchFailure_calm _ _)

theorem State.releaseReport_calm (s : State) (b : Bay) (l : Latch) (p : Presence) : Calm s (s.releaseReport b l p) := by
  unfold State.releaseReport
  split
  · exact Calm.refl s
  · split
    · exact (s.releaseNotice_quiet _ _ _).calm.trans (State.enterState_calm _ _ _)
    · split
      · exact s.setRelease_calm _ _
      · exact s.latchFailure_calm _ _
      · exact Calm.refl s
      · exact Calm.refl s
      · exact (s.notCollected_calm _ _).trans (State.returnToOrigin_calm _ _ _)
      · exact (s.raise_quiet _ _).calm
      · exact Calm.refl s
      · exact s.returnToOrigin_calm _ _
      · exact s.relatchFailure_calm _

theorem State.latchDiscarded_calm (s : State) (b : Bay) : Calm s (s.latchDiscarded b) := by
  unfold State.latchDiscarded
  split
  · exact Calm.refl s
  · split
    · exact s.relatchFailure_calm _
    · exact s.latchFailure_calm _ _
    · exact s.latchFailure_calm _ _

theorem State.faultBay_calm (s : State) (b : Bay) : Calm s (s.faultBay b) := by
  unfold State.faultBay
  split
  · dsimp only
    split
    · exact (s.enterBase_calm _ _ _).trans (State.closeRelease_calm _ _)
    · exact (s.enterBase_calm _ _ _).trans ((State.requestLatch_quiet _ _ _).calm.trans
        ((State.closeRelease_calm _ _).trans (State.endFailedWith_calm State.startRelease_calm _ _ _ _)))
  · exact s.enterState_calm _ _

end Sys2Proof.Machine
end

