-- ==== Sys2Proof/Laws/Reports.lean ====
section
/-! SUPPORT. What the identity lookup, the running of steps and the handling of dock reports leave alone (`Calm`). -/

namespace Sys2Proof.Machine

open Sys2Proof.Safety

/-! ## The lookup and the session -/

theorem State.raiseReason_quiet (s : State) (b : Bay) (r : QuarantineReason) : Quiet s (s.raiseReason b r) := by
  cases r
  · exact s.raise_quiet _ _
  · exact Quiet.refl s
  · exact Quiet.refl s
  · exact s.raise_quiet _ _

theorem State.beginSession_calm (s : State) (b : Bay) (i : Fin 128) (e : RegEntry) : Calm s (s.beginSession b i e) :=
  (s.modBay_calm _ _).trans (State.enterState_calm _ _ _)

theorem State.identify_calm (s : State) (b : Bay) : Calm s (s.identify b) := by
  unfold State.identify
  split
  · exact (s.modBay_calm _ _).trans ((State.raiseReason_quiet _ _ _).calm.trans (State.enterState_calm _ _ _))
  · exact s.beginSession_calm _ _ _

theorem State.reevaluateBay_calm (s : State) (b : Bay) : Calm s (s.reevaluateBay b) := by
  unfold State.reevaluateBay
  split
  · split
    · exact s.beginSession_calm _ _ _
    · split
      · exact Calm.refl s
      · exact (s.modBay_calm _ _).trans (State.raiseReason_quiet _ _ _).calm
  · exact Calm.refl s

theorem State.reevaluate_calm (s : State) : Calm s s.reevaluate :=
  Calm.foldl (fun s b => s.reevaluateBay_calm b) allBays s

theorem State.countSession_calm (s : State) (b : Bay) (x : Session) : Calm s (s.countSession b x) :=
  (s.modBay_calm b fun r => { r with session := some { x with counted := true, firstReady := some s.seconds } }).trans
    (Calm.other _ _ _ _ _ _ _ _ _)

theorem State.completeSession_calm (s : State) (b : Bay) : Calm s (s.completeSession b) := by
  unfold State.completeSession
  split
  · exact Calm.refl s
  · dsimp only
    split
    · exact (s.modSession_calm _ _).trans (State.enterState_calm _ _ _)
    · exact (s.countSession_calm _ _).trans ((State.modSession_calm _ _ _).trans (State.enterState_calm _ _ _))

theorem State.nextStep_calm (s : State) (b : Bay) (x : Session) : Calm s (s.nextStep b x) :=
  (s.modBay_calm _ _).trans ((State.evalSetpoint_quiet _ _).trans (State.askRound_quiet _)).calm

theorem State.endStep_calm (s : State) (b : Bay) : Calm s (s.endStep b) := by
  unfold State.endStep
  split
  · exact Calm.refl s
  · split
    · exact s.completeSession_calm b
    · exact s.nextStep_calm b _

theorem State.testExits_calm (s : State) (b : Bay) (p : PackRecord) : Calm s (s.testExits b p) := by
  unfold State.testExits
  split
  · exact Calm.refl s
  · dsimp only
    split
    · exact (s.modSession_calm _ _).trans (State.endStep_calm _ _)
    · exact s.modSession_calm _ _

theorem State.startTopUp_calm (s : State) (b : Bay) : Calm s (s.startTopUp b) := by
  unfold State.startTopUp
  exact (s.modSession_calm _ _).trans (State.enterState_calm _ _ _)

theorem State.testTopUp_calm (s : State) (b : Bay) (p : PackRecord) : Calm s (s.testTopUp b p) := by
  unfold State.testTopUp
  split
  · exact Calm.refl s
  · split
    · exact Calm.refl s
    · have h : ∀ t, Calm s t → ∀ c : Bool, Calm s (if c then t.startTopUp b else t) := by
        intro t h c
        cases c
        · exact h
        · exact h.trans (State.startTopUp_calm t b)
      exact h _ (s.modSession_calm _ _) _

theorem State.timeoutStep_calm (s : State) (b : Bay) : Calm s (s.timeoutStep b) := by
  unfold State.timeoutStep
  split
  · exact Calm.refl s
  · split
    · exact s.endStep_calm b
    · exact (s.raise_quiet _ _).calm.trans (State.enterState_calm _ _ _)

/-! ## Records -/

theorem State.testTemperature_calm (s : State) (b : Bay) (p : PackRecord) : Calm s (s.testTemperature b p) := by
  unfold State.testTemperature
  split
  · exact (s.raise_quiet _ _).calm.trans (State.enterState_calm _ _ _)
  · split
    · exact s.enterState_calm _ _
    · exact Calm.refl s

theorem State.testTempExit_calm (s : State) (b : Bay) (p : PackRecord) : Calm s (s.testTempExit b p) := by
  unfold State.testTempExit
  split
  · exact Calm.refl s
  · split
    · dsimp only
      split
      · exact (s.endCause_quiet _).calm.trans (State.enterState_calm _ _ _)
      · exact (s.endCause_quiet _).calm
    · exact Calm.refl s

theorem State.meterRecord_calm (s : State) (b : Bay) (a : Arrived) (p : Option Arrived) : Calm s (s.meterRecord b a p) :=
  s.modSession_calm _ _

theorem State.recordByState_calm (s : State) (b : Bay) (a : Arrived) (p : Option Arrived) :
    Calm s (s.recordByState b a p) := by
  unfold State.recordByState
  split
  · exact s.identify_calm b
  · exact s.testTempExit_calm b _
  · exact s.testTemperature_calm b _
  · have h := (s.testTemperature_calm b a.record).trans (State.meterRecord_calm _ b a p)
    dsimp only
    split
    · exact h.trans (State.testExits_calm _ _ _)
    · exact h
  · exact s.testTopUp_calm b _
  all_goals exact Calm.refl s

theorem State.recordInService_calm (s : State) (b : Bay) (a : Arrived) : Calm s (s.recordInService b a) := by
  unfold State.recordInService
  have h := (s.modBay_calm b fun r =>
    { r with
      latest := some a
      packId := if r.state = .identifying ∧ r.packId = none then some a.record.packId else r.packId }).trans
    (State.endNoData_calm (s.storeRecord b a) b)
  dsimp only
  split
  · exact h.trans (State.recordByState_calm _ _ _ _)
  · exact h.trans ((Quiet.foldl (fun t k => t.raise_quiet (.bay k b) false) _ _).calm.trans
      ((State.faultBay_calm _ _).trans (State.meterRecord_calm _ _ _ _)))

theorem State.applyRecord_calm (s : State) (b : Bay) (a : Arrived) : Calm s (s.applyRecord b a) := by
  unfold State.applyRecord
  have hs : Calm s (s.storeRecord b a) := s.modBay_calm _ _
  split
  · exact Calm.refl s
  · exact Calm.refl s
  · exact hs
  all_goals
    split
    · exact s.recordInService_calm b a
    · exact hs

theorem State.connectionCheck_calm (s : State) (b : Bay) (p : StageReport) : Calm s (s.connectionCheck b p) := by
  unfold State.connectionCheck
  split
  · dsimp only
    split
    · exact (s.modBay_calm _ _).trans ((State.modSession_calm _ _ _).trans (State.enterState_calm _ _ _))
    · split
      · exact (s.modBay_calm _ _).trans ((State.raise_quiet _ _ _).calm.trans (State.enterState_calm _ _ _))
      · exact s.modBay_calm _ _
  · exact Calm.refl s

theorem State.applyStage_calm (s : State) (b : Bay) (p : StageReport) : Calm s (s.applyStage b p) := by
  unfold State.applyStage
  have h : Calm s (s.modBay b fun r => { r with stage := some p }) := s.modBay_calm _ _
  dsimp only
  split
  · exact Calm.refl s
  · exact h
  · split
    · exact h.trans (State.raise_quiet _ _ _).calm
    · exact h
  all_goals
    split
    · split
      · exact h.trans ((State.raise_quiet _ _ _).calm.trans (State.faultBay_calm _ _))
      · exact h.trans (State.raise_quiet _ _ _).calm
    · first
        | exact h.trans (State.connectionCheck_calm _ _ _)
        | (split <;> first
            | exact h.trans (State.connectionCheck_calm _ _ _)
            | exact h)

theorem State.applyLatch_calm (s : State) (b : Bay) (l : Latch) (p : Presence) : Calm s (s.applyLatch b l p) := by
  unfold State.applyLatch
  have h : Calm s (s.modBay b fun r => { r with latch := some l, presence := some p }) := s.modBay_calm _ _
  dsimp only
  split
  · exact Calm.refl s
  · split
    · exact h.trans (State.raise_quiet _ _ _).calm
    · split
      · exact h.trans (State.enterState_calm _ _ _)
      · exact h
  · split
    · exact h.trans (State.enterState_calm _ _ _)
    · exact h
  · exact h.trans (State.releaseReport_calm _ _ _ _)
  all_goals
    split
    · exact h.trans ((State.raise_quiet _ _ _).calm.trans (State.enterState_calm _ _ _))
    · split
      · exact h
      · exact h.trans ((State.raise_quiet _ _ _).calm.trans (State.enterState_calm _ _ _))

/-! ## Relays and the Report Decoder -/

theorem State.relayTelemetry_calm (s : State) (b : Bay) (p : PackRecord) : Calm s (s.relayTelemetry b p) := by
  unfold State.relayTelemetry
  dsimp only
  split
  · split
    · exact (s.setCounters_calm _).trans ((State.setMemos_calm _ _).trans (State.sendRelay_quiet _ _ _ _ _).calm)
    · exact (s.setCounters_calm _).trans (State.sendRelay_quiet _ _ _ _ _).calm
  · exact s.setCounters_calm _

theorem State.relayStage_calm (s : State) (b : Bay) (p : StageReport) : Calm s (s.relayStage b p) := by
  unfold State.relayStage
  dsimp only
  split
  · split
    · exact (s.setCounters_calm _).trans ((State.setMemos_calm _ _).trans (State.sendRelay_quiet _ _ _ _ _).calm)
    · exact (s.setCounters_calm _).trans (State.sendRelay_quiet _ _ _ _ _).calm
  · exact s.setCounters_calm _

theorem State.relayLatch_calm (s : State) (b : Bay) (l : Latch) (p : Presence) : Calm s (s.relayLatch b l p) := by
  unfold State.relayLatch
  dsimp only
  split
  · split
    · exact (s.setCounters_calm _).trans ((State.setMemos_calm _ _).trans (State.sendRelay_quiet _ _ _ _ _).calm)
    · exact (s.setCounters_calm _).trans (State.sendRelay_quiet _ _ _ _ _).calm
  · exact s.setCounters_calm _

theorem State.relayMeter_calm (s : State) (w : Nat) : Calm s (s.relayMeter w) := by
  unfold State.relayMeter
  dsimp only
  split
  · split
    · exact (s.setCounters_calm _).trans ((State.setMemos_calm _ _).trans (State.sendRelay_quiet _ _ _ _ _).calm)
    · exact (s.setCounters_calm _).trans (State.sendRelay_quiet _ _ _ _ _).calm
  · exact s.setCounters_calm _

theorem State.relayService_calm (s : State) (b : Bay) (p : List Byte) : Calm s (s.relayService b p) := by
  unfold State.relayService
  dsimp only
  split
  · exact (s.setCounters_calm _).trans (State.sendRelay_quiet _ _ _ _ _).calm
  · exact s.setCounters_calm _

theorem State.endFrozen_calm (s : State) (b : Bay) : Calm s (s.endFrozen b) := by
  unfold State.endFrozen
  split
  · exact (s.modBay_calm _ _).trans (State.endCause_quiet _ _).calm
  · exact Calm.refl s

theorem State.clearDecoder_calm (s : State) (b : Bay) : Calm s (s.clearDecoder b) :=
  (s.setAssembly_calm _ _).trans ((State.setAlive_calm _ _ _).trans (State.endFrozen_calm _ _))

theorem State.completeRecord_calm (s : State) (b : Bay) (p : PackRecord) (t : Time) : Calm s (s.completeRecord b p t) := by
  unfold State.completeRecord
  split
  · exact Calm.refl s
  · split
    · exact Calm.refl s
    · split
      · unfold State.repeatRecord
        dsimp only
        split
        · exact (s.setAlive_calm _ _).trans ((State.modBay_calm _ _ _).trans (State.raise_quiet _ _ _).calm)
        · exact s.setAlive_calm _ _
      · exact (s.setAlive_calm _ _).trans ((State.endFrozen_calm _ _).trans
          ((State.applyRecord_calm _ _ _).trans (State.relayTelemetry_calm _ _ _)))

theorem State.takeSegment0_calm (s : State) (b : Bay) (f : LineFrame) : Calm s (s.takeSegment0 b f) := by
  unfold State.takeSegment0
  split
  · exact (s.raise_quiet _ _).calm
  · dsimp only
    split
    · exact s.setAssembly_calm _ _
    · split
      · exact s.setAssembly_calm _ _
      · split
        · exact (s.setAssembly_calm _ _).trans (State.completeRecord_calm _ _ _ _)
        · exact (s.setAssembly_calm _ _).trans (State.setAssembly_calm _ _ _)

theorem State.takeGroup_calm (s : State) (b : Bay) (f : LineFrame) : Calm s (s.takeGroup b f) := by
  unfold State.takeGroup
  split
  · exact (s.raise_quiet _ _).calm
  · split
    · exact Calm.refl s
    · dsimp only
      split
      · split
        · exact (s.setAssembly_calm _ _).trans (State.completeRecord_calm _ _ _ _)
        · exact s.setAssembly_calm _ _
      · exact s.setAssembly_calm _ _

theorem State.takeStage_calm (s : State) (b : Bay) (f : LineFrame) : Calm s (s.takeStage b f) := by
  unfold State.takeStage
  split
  · exact (s.applyStage_calm _ _).trans (State.relayStage_calm _ _ _)
  · exact (s.raise_quiet _ _).calm

theorem State.takeLatch_calm (s : State) (b : Bay) (f : LineFrame) : Calm s (s.takeLatch b f) := by
  unfold State.takeLatch
  split
  · dsimp only
    split
    · exact (s.clearDecoder_calm _).trans ((State.applyLatch_calm _ _ _ _).trans (State.relayLatch_calm _ _ _ _))
    · exact (s.applyLatch_calm _ _ _).trans (State.relayLatch_calm _ _ _ _)
  · exact (s.raise_quiet _ _).calm

theorem State.takeService_calm (s : State) (b : Bay) (f : LineFrame) : Calm s (s.takeService b f) := by
  unfold State.takeService
  split
  · exact (s.raise_quiet _ _).calm
  · exact s.relayService_calm _ _

end Sys2Proof.Machine
end

