-- ==== Sys2Proof/WellFormed.lean ====
section
/-! DEFINITION. Which commands are well formed: the operands can be those of the event that the row names. -/

namespace Sys2Proof

/-- The operand checks of a command. DEPOT_RX_BAD_LENGTH carries a length byte above 56 (R135). A frame heard on the Bay
Line has at least one character (R130). A tag is two bytes wide (00_scope.md section 4.1, R136). -/
def Instr.wellFormed : Instr → Bool
  | .depotRxBadLength char => decide (56 < char.toNat)
  | .bayLineFrameEnd chars _ => !chars.isEmpty
  | .waitLimitExpiry tag => decide (tag < 65536)
  | _ => true

end Sys2Proof
end

