-- ==== Sys2Proof/Tests/Slice0.lean ====
section
/-! SUPPORT. Tests: the operand checks, figures that the manual works out, and, for each obligation with hypotheses, a
concrete state and operands that meet them. -/

open Sys2Proof Sys2Proof.Machine Sys2Proof.Safety

namespace Sys2Proof.Tests

-- The kernel evaluations run one after another: each of them in a thread of its own would need too much memory.
set_option Elab.async false

/-! ## Small states -/

/-- Profile 1 of section 2.14. -/
def profile1 : Profile :=
  ⟨some ⟨2, 45, 38, 55, 0, ⟨25, 100⟩, ⟨40, 100⟩, ⟨50, 40⟩, ⟨55, 0⟩, 40, 60000, 2550, 50400⟩,
   ((Table.replicate 6 none).set 0 (some ⟨.cc, 600, 57600, 56400, 0, 150, 480, .advance⟩)).set 1
     (some ⟨.cv, 300, 57600, 0, 40, 0, 240, .fault⟩)⟩

/-- The record of pack 40213 in a bay. -/
def record1 : PackRecord := ⟨1, 0, false, 40213, 50940, 300, 44, 28, 55, 0, []⟩

/-- The session of section 1.13. -/
def session1 : Session := ⟨17, 2, 1, 1, 100, some 540000, 0, 0, 0, 0, true, false, none⟩

/-- A bay in CHARGING. -/
def charging1 : BayRecord :=
  { BayRecord.reset with
    state := .charging
    packId := some 40213
    session := some session1
    latest := some ⟨record1, 7999900⟩
    latch := some .closed
    presence := some .present
    urgency := some 2
    setpoint := ⟨.on, 0, 57600⟩ }

/-- A rack in service with bay 6 in CHARGING and every other bay EMPTY, 8,000 s after power-on. -/
def base : State :=
  { State.reset with
    bays := (Table.replicate 16 { BayRecord.reset with state := .empty }).set 5 charging1
    config := Table.replicate 16 ⟨true, 800, 58800, 92⟩
    profiles := (Table.replicate 8 ⟨none, Table.replicate 6 none⟩).set 1 profile1
    fal := { Fal.reset with
      budget := ⟨12000, 5000, 1000, 500, 30⟩
      effective := 12000
      headroom := 12000
      meterArrival := some 7999000 }
    registry := (Table.replicate 128 none).set 17 (some ⟨40213, 2, 1, .inFleet, 311, 402⟩)
    mgu := ⟨.inService, 8000000, false⟩
    blc := { Blc.reset with
      tx := []
      line := .idle
      refresh := Table.replicate 16 (some 8000500) } }

/-- The rack with bay 6's record changed. -/
def bay6 (f : BayRecord → BayRecord) : State := base.modBay 5 f

/-- A session that has been READY at a seconds count. -/
def countedSession (index : Fin 128) (seconds : Nat) : Session :=
  { session1 with registryIndex := index, stepIndex := 2, stepCharge := none, counted := true, firstReady := some seconds }

/-- The rack with bay 6 in READY, on the ready list. -/
def readyBase : State :=
  { bay6 (fun r => { r with
      state := .ready
      urgency := none
      setpoint := Setpoint.allOff
      session := some (countedSession 17 7990)
      readyTime := some 7990 }) with rot := { Rot.reset with ready := [5] } }

/-- A rack with bay 3 in READY too, at the end of the ready list: a pack of bay 6's type with status WATCH, ready before it. -/
def alsoReady (s : State) : State :=
  { s.modBay 2 (fun r => { r with
      state := .ready
      packId := some 40214
      session := some (countedSession 18 5)
      latest := some ⟨{ record1 with packId := 40214 }, 7999900⟩
      latch := some .closed
      presence := some .present
      readyTime := some 5 }) with
    registry := s.registry.set 18 (some ⟨40214, 2, 1, .watch, 1, 1⟩)
    rot := { s.rot with ready := s.rot.ready ++ [2] } }

/-- The rack with bay 6 in RELEASING. -/
def releasingBase (kind : ReleaseKind) (request : Option Request) (origin : Origin) (phase : Phase)
    (deadline : Option Time) : State :=
  { bay6 (fun r => { r with
      state := .releasing
      origin := some origin
      session := if origin = .ready then r.session else none
      urgency := none
      setpoint := Setpoint.allOff }) with
    rot := { Rot.reset with releases := (Table.replicate 16 none).set 5 (some ⟨kind, request, origin, phase, deadline⟩) } }

/-- The rack in LOADING, with bay 6 in IDENTIFYING without a pack ID. -/
def loading : State :=
  { base with
    bays := (Table.replicate 16 { BayRecord.reset with state := .empty }).set 5
      { BayRecord.reset with state := .identifying, latch := some .closed, presence := some .present }
    mgu := ⟨.loading, 8000000, false⟩
    fal := { base.fal with effective := 0, headroom := 0 } }

/-- A state with one request received, of tag 7. -/
def asking (kind : Nat) (payload : List Byte) (s : State) : State :=
  { s with dlp := { s.dlp with rx := [⟨kind, 7, payload⟩] } }

/-- A state with one frame heard now. -/
def hearing (header : Byte) (payload : List Byte) (s : State) : State :=
  { s with blc := { s.blc with rx := [⟨header, payload, s.now⟩] } }

/-- A state with an entry on the line. -/
def onLine (e : TxEntry) (s : State) : State :=
  { s with blc := { s.blc with tx := [e], line := .sending, sending := some [], driverEnable := true } }

/-- The next state after a command. -/
def after (c : Instr) (s : State) : State :=
  match exec c s with
  | .next t => t
  | .fault _ => s
  | .refused _ => s

/-! ## The operand checks -/

theorem test_length_byte_56_is_not_bad : (Instr.depotRxBadLength 56#8).wellFormed = false := by decide

theorem test_line_frame_without_characters : (Instr.bayLineFrameEnd [] false).wellFormed = false := by decide

theorem test_tag_wider_than_two_bytes : (Instr.waitLimitExpiry 65536).wellFormed = false := by decide

/-- No row of the table has bits, so no word spells a command. -/
theorem test_no_word_spells_a_command : decodeTableWord 16 0x0C00 = none := by decide

/-! ## Check sequences and coding -/

/-- The check value that catalogues of CRCs give for generator 07h, initial value 0, over the digits 1 to 9: F4h. -/
theorem test_crc8_check_value :
    crc8 [0x31#8, 0x32#8, 0x33#8, 0x34#8, 0x35#8, 0x36#8, 0x37#8, 0x38#8, 0x39#8] = 0xF4#8 := by decide +kernel

/-- The check value for generator 1021h, initial value FFFFh, over the digits 1 to 9: 29B1h. -/
theorem test_crc16_check_value :
    crc16 [0x31#8, 0x32#8, 0x33#8, 0x34#8, 0x35#8, 0x36#8, 0x37#8, 0x38#8, 0x39#8] = 0x29B1#16 := by decide +kernel

/-- A drive frame of bay 6 with setpoint ON, 450 dA, 57,600 mV (R122): class 1, destination 6, 5 bytes. -/
theorem test_drive_frame_bytes :
    (({ base with bays := base.bays.set 5 { charging1 with setpoint := ⟨.on, 450, 57600⟩ } }).frameOf (.drive 5)).take 8 =
      [0x20#8, 6#8, 5#8, 1#8, 0x01#8, 0xC2#8, 0xE1#8, 0x00#8] := by decide

/-! ## Figures of section 3.7 -/

/-- Bay 5 at 44 °C: 100 + floor(4 × (-60) / 10) = 76. -/
theorem test_derate_at_44 : profile1.head.map (deratePercent · 44) = some 76 := by decide

/-- Bay 7 is reclaimed to 210 dA, and a setpoint of 0 is not. -/
theorem test_reclaim : reclaimed 30 300 180 300 = 210 ∧ reclaimed 30 0 180 300 = 300 := by decide

/-- The AC demands of bays 2, 5, 7, 9 and 12. -/
theorem test_ac_demands : acDemand 600 57600 92 = 3757 ∧ acDemand 380 28800 88 = 1245 ∧ acDemand 210 57600 92 = 1316 ∧
    acDemand 500 57600 90 = 3200 ∧ acDemand 100 62400 90 = 694 := by decide

/-- The grants of section 3.7.2 out of 9,000 W, in the order of bays 2, 5, 7, 9, 12. -/
theorem test_apportioning :
    apportion 9000 [(some 0, 3757), (some 1, 1245), (some 2, 1316), (some 2, 3200), (some 3, 694)] =
      [3757, 1245, 1166, 2832, 0] := by decide

/-- Bay 7's granted current for 1,166 W is 186 dA, and bay 9's for 2,500 W at 90 % is 390 dA. -/
theorem test_granted_currents : grantCurrent ⟨210, 57600, 1316⟩ 92 1166 = 186 ∧
    grantCurrent ⟨500, 57600, 3200⟩ 90 2500 = 390 := by decide

/-! ## One step each -/

/-- R65: the first round of a bay that has just entered CHARGING is held to the ramp step. -/
theorem test_first_grant_is_one_ramp_step : ((after .allocationTick base).bay 5).applied = 500 := by decide +kernel

/-- R37, R38: 300 dA over 500 ms is 150,000 dA.ms, that is 150 dA.s without a remainder. -/
theorem test_metered_charge : (session1.meter 300 500).sessionCharge = 150 ∧
    (session1.meter 300 500).stepCharge = some 539850 := by decide

/-- Section 1.13 at 1000.000: a latch report CLOSED, PRESENT docks the pack, with a deadline 10 s later. -/
theorem test_docking :
    ((after .latchReport (hearing 0x84#8 [0#8, 1#8] base)).bay 3).state = .identifying ∧
      ((after .latchReport (hearing 0x84#8 [0#8, 1#8] base)).bay 3).identDeadline = some 8010000 := by decide +kernel

/-- R10: a record at the abort limit of 55 °C sends a bay in CHARGING to TEMP_WAIT. -/
theorem test_hot_record :
    ((after .segment0 (hearing 0xC6#8 [1#8, 1#8, 0#8, 0#8, 0x9D#8, 0x15#8, 0xC6#8, 0xFC#8, 0#8, 10#8, 55#8, 30#8, 50#8, 0#8]
      base)).bay 5).state = .tempWait := by decide +kernel

/-- R48: a ramp step of 20 W is clamped to 50 W. -/
theorem test_budget_is_clamped :
    (after .setBudget (asking 0x0B [0#8, 0#8, 1#8, 0#8, 0#8, 1#8, 0#8, 1#8, 0#8, 20#8, 0#8, 1#8] base)).fal.budget =
      ⟨1, 1, 1, 50, 1⟩ := by decide +kernel

/-- R173: the stop button puts the depot on hold and takes every grant away. -/
theorem test_stop_button_holds : (after .xstopAsserted base).cmn.hold = true ∧ (after .xstopAsserted base).cmn.trip = true := by
  decide +kernel

/-- R131: the eighth transmit error in a row starts a recovery. -/
theorem test_eighth_error :
    (after .transmitError (onLine ⟨.stop, 0, true, false, 0⟩
      { base with blc := { base.blc with errorRun := 7 } })).blc.line = .recovery := by decide +kernel

/-- R135: a length byte of 57 discards the frame and raises DEPOT_RX_ERROR. -/
theorem test_bad_length_byte :
    ((after (.depotRxBadLength 57#8) { base with dlp := { base.dlp with receiver := .ready } }).flags
      (.depot .depotRxError)).latched = true := by decide +kernel

/-! ## States that meet the hypotheses -/

theorem witness_IdleStepPostsDueEventOrTicks : base.pending = [] ∧ 999 / 1000 ≤ 4294967295 ∧ 4294967295999 / 1000 ≤ 4294967295 := by
  decide

theorem test_timebase_stops : tickTime 999 = 1000 ∧ tickTime 4294967295999 = 4294967295000 := by decide

theorem witness_StepKeepsBudgetLaw : BudgetLaw base ∧ ∃ t, step base = .next t :=
  ⟨by unfold BudgetLaw; decide +kernel, _, rfl⟩

theorem witness_StepKeepsConditionAndTripLaws :
    ConditionLaw (after .xstopAsserted base) ∧ TripLaw (after .xstopAsserted base) ∧
      ∃ t, step (after .xstopAsserted base) = .next t :=
  ⟨by unfold ConditionLaw; decide +kernel, by unfold TripLaw; decide +kernel, _, rfl⟩

theorem witness_StepKeepsPackIdsDistinct : RegistryLaw base ∧ ∃ t, step base = .next t :=
  ⟨by unfold RegistryLaw; decide +kernel, _, rfl⟩

theorem witness_StepKeepsQueueLaws : TxLaw State.reset ∧ QueueLaw readyBase ∧ (∃ t, step State.reset = .next t) ∧
    ∃ t, step readyBase = .next t :=
  ⟨by unfold TxLaw; decide +kernel, by unfold QueueLaw; decide +kernel, ⟨_, rfl⟩, _, rfl⟩

/-- Bay 6 in RELEASING for a dispatch. -/
def dispatching : State := releasingBase .dispatch (some ⟨3, 2, 5⟩) .ready .unlatching (some 8000000)

theorem witness_StepKeepsReleaseAndFieldLaws : ReleaseLaw dispatching ∧ FieldLaw dispatching ∧ ∃ t, step dispatching = .next t :=
  ⟨by unfold ReleaseLaw; decide +kernel, by unfold FieldLaw FieldsHeld; decide +kernel, _, rfl⟩

theorem witness_StepKeepsServiceLaw : ServiceLaw loading ∧ loading.inService = false ∧ ReleaseLaw loading ∧
    ∃ t, step loading = .next t :=
  ⟨by unfold ServiceLaw; decide +kernel, rfl, by unfold ReleaseLaw; decide +kernel, _, rfl⟩

theorem witness_StepKeepsSetpointLaw : SetpointLaw base ∧ BoundsLaw base ∧ FieldLaw base ∧ ReleaseLaw base ∧
    ∃ t, step base = .next t :=
  ⟨by unfold SetpointLaw; decide +kernel, by unfold BoundsLaw; decide +kernel,
    by unfold FieldLaw FieldsHeld; decide +kernel, by unfold ReleaseLaw; decide +kernel, _, rfl⟩

/-- Bay 6 in CHECKING, probing: its PROBE voltage limit is the step's target, below the stage maximum. -/
theorem witness_probe_bound :
    BoundsLaw (bay6 fun r => { r with state := .checking, urgency := none, setpoint := ⟨.probe, 0, 57600⟩ }) := by
  unfold BoundsLaw; decide +kernel

theorem witness_StepKeepsEntriesHeldOnce : SessionLaw base ∧ FieldLaw base ∧ ReleaseLaw base ∧ ∃ t, step base = .next t :=
  ⟨by unfold SessionLaw; decide +kernel, by unfold FieldLaw FieldsHeld; decide +kernel,
    by unfold ReleaseLaw; decide +kernel, _, rfl⟩

/-- Bays 6 and 3 in READY, the WATCH pack behind the IN_FLEET pack that became ready later. -/
theorem witness_StepKeepsReadyLaw : ReadyLaw (alsoReady readyBase) ∧ FieldLaw (alsoReady readyBase) ∧
    ReleaseLaw (alsoReady readyBase) ∧ ReadyOrderLaw (alsoReady readyBase) ∧ ∃ t, step (alsoReady readyBase) = .next t :=
  ⟨by unfold ReadyLaw; decide +kernel, by unfold FieldLaw FieldsHeld; decide +kernel,
    by unfold ReleaseLaw; decide +kernel,
    ⟨by unfold Precedes; decide +kernel, by decide +kernel⟩, _, rfl⟩

/-- Bay 6 at 44 °C in its CC step, and the curve at its points: 25 °C begins segment 1, 50 °C segment 3. -/
theorem witness_DemandFollowsStagesAndCurve :
    (base.bay 5).state = .charging ∧ (base.bay 5).session = some session1 ∧
      base.stepOf session1 = some ⟨.cc, 600, 57600, 56400, 0, 150, 480, .advance⟩ ∧ base.headOf session1 = profile1.head ∧
      (base.bay 5).latest = some ⟨record1, 7999900⟩ ∧ (base.bay 5).noData = false ∧
      (base.demandOf 5).iDem = 456 ∧ profile1.head.map (fun h => (deratePercent h 25, deratePercent h 50)) = some (100, 40) := by
  decide +kernel

theorem witness_ClassesAreServedInTurnAndProRata :
    ([(some 0, 5), (some 2, 7)] : List (Option Nat × Nat))[1].1 = some 2 ∧ [3, 4].sum ≤ 7 ∧ 6 < [3, 4].sum ∧
      shareClass 6 [3, 4] = [3, 3] := by decide

theorem witness_AllocationTickRunsRound : base.inService = true ∧ base.cmn.hold = false ∧ (base.bay 5).state = .charging ∧
    (base.bay 0).state ≠ .charging ∧ ([5] : List Bay).Nodup ∧
    (∀ b : Bay, b ∈ ([5] : List Bay) ↔ (base.bay b).state = .charging ∧ ∃ x ∈ (base.bay b).session, x.packType = 2) ∧
    0 = base.rot.waiting.countP (fun e => e.request.packType == 2) := by decide +kernel

/-- Requests for the status, for part 2 of bay 16, and for the registry from item 127. -/
theorem witness_ReadsAnswerAndChangeNothing :
    Room base ∧ Asked (asking 0x01 [] base) 0x01 ⟨0x01, 7, []⟩ [] ∧
      Asked (asking 0x02 [16#8, 2#8] base) 0x02 ⟨0x02, 7, [16#8, 2#8]⟩ [] ∧ bayOf 16 = some 15 ∧
      (base.partBytes 15 2).isSome = true ∧
      Asked (asking 0x03 [2#8, 127#8, 4#8] base) 0x03 ⟨0x03, 7, [2#8, 127#8, 4#8]⟩ [] ∧
      (base.readable 2).map (fun t => (t.first, t.last)) = some (0, 127) := by
  unfold Room Asked; decide +kernel

theorem witness_ReadAnswersHaveTheirLengths :
    (base.partBytes 5 0).isSome = true ∧ (base.partBytes 5 1).isSome = true ∧ (base.partBytes 5 2).isSome = true ∧
      (base.readable 12).isSome = true ∧ ∀ b : Bay, ((base.bay b).latest.map fun a => a.record.cells.length).getD 0 ≤ 24 := by
  decide +kernel

theorem witness_MisformedRequestsAreAnsweredAndChangeNothing :
    Room base ∧ Asked (asking 0x15 [] base) 0x15 ⟨0x15, 7, []⟩ [] ∧ allowedLength 0x15 0 = false ∧
      allowedLength 0x01 1 = false ∧ Asked (asking 0x16 [] base) 0x16 ⟨0x16, 7, []⟩ [] ∧
      Asked (asking 0 [] base) 0 ⟨0, 7, []⟩ [] ∧
      ({ base with mgu := { base.mgu with restartPending := true } }).mgu.restartPending = true := by
  unfold Room Asked; decide +kernel

/-- A request of a kind for a state, of tag 7, that a test refuses. -/
def refused (s : State) (kind : Nat) (payload : List Byte) (code : Result) : Bool :=
  allowedLength kind payload.length && refusal (asking kind payload s) ⟨kind, 7, payload⟩ kind == some code

/-- Reads just outside their ranges. -/
theorem witness_refused_reads :
    refused base 0x02 [17#8, 0#8] .badValue = true ∧ refused base 0x02 [1#8, 3#8] .badValue = true ∧
      refused base 0x03 [13#8, 0#8, 1#8] .badValue = true ∧ refused base 0x03 [3#8, 0#8, 1#8] .badValue = true ∧
      refused base 0x03 [2#8, 128#8, 1#8] .badValue = true := by decide +kernel

/-- Heads and steps: a profile and a step number out of range, a profile in use, a temperature of 126 °C, a curve that does not
ascend, a top-up voltage that is the pack limit, a step without a head, a step with a current of 0, and a REST step with no time. -/
theorem witness_refused_profiles :
    refused base 0x04 (8#8 :: be 21 0) .badValue = true ∧ refused base 0x04 (1#8 :: be 21 0) .inUse = true ∧
      refused base 0x04 ([7#8, 7#8] ++ be 20 0) .badValue = true ∧
      refused base 0x04 ([7#8, 1#8, 126#8, 38#8, 126#8, 0#8, 25#8, 40#8, 50#8, 55#8, 0#8, 0#8, 0#8, 0#8] ++ be 2 40 ++
        be 2 60000 ++ be 2 2550 ++ be 2 0) .badValue = true ∧
      refused base 0x04 ([7#8, 1#8, 45#8, 38#8, 55#8, 0#8, 25#8, 25#8, 50#8, 55#8, 0#8, 0#8, 0#8, 0#8] ++ be 2 40 ++
        be 2 60000 ++ be 2 2550 ++ be 2 0) .badValue = true ∧
      refused base 0x04 ([7#8, 1#8, 45#8, 38#8, 55#8, 0#8, 25#8, 40#8, 50#8, 55#8, 0#8, 0#8, 0#8, 0#8] ++ be 2 40 ++
        be 2 60000 ++ be 2 2550 ++ be 2 60000) .badValue = true ∧
      refused base 0x05 ([1#8, 7#8] ++ be 14 0) .badValue = true ∧ refused base 0x05 ([1#8, 1#8] ++ be 14 0) .inUse = true ∧
      refused base 0x05 ([7#8, 1#8] ++ be 14 0) .wrongState = true ∧
      refused loading 0x05 ([1#8, 2#8, 1#8] ++ be 2 0 ++ be 11 0) .badValue = true ∧
      refused loading 0x05 ([1#8, 1#8, 2#8] ++ be 2 0 ++ be 2 57600 ++ be 9 0) .badValue = true := by decide +kernel

/-- Registry, configuration and maps: an index of 128, an entry in use, a status of 3, a pack ID that another entry holds, a bay
of 17, an efficiency of 49, an enabled bay without a current, a busy bay disabled, EVERY_N with N 1, ON_CHANGE for service
frames, and a selection with bit 23. -/
theorem witness_refused_tables :
    refused base 0x06 (128#8 :: be 12 0) .badValue = true ∧ refused base 0x06 (17#8 :: be 12 0) .inUse = true ∧
      refused base 0x06 ([1#8] ++ be 4 5 ++ [0#8, 0#8, 3#8] ++ be 5 0) .badValue = true ∧
      refused base 0x06 ([1#8] ++ be 4 40213 ++ be 8 0) .duplicate = true ∧
      refused base 0x07 ([17#8, 0#8] ++ be 2 0 ++ be 2 0 ++ [50#8]) .badValue = true ∧
      refused base 0x07 ([1#8, 0#8] ++ be 2 0 ++ be 2 0 ++ [49#8]) .badValue = true ∧
      refused base 0x07 ([1#8, 1#8] ++ be 2 0 ++ be 2 1 ++ [50#8]) .badValue = true ∧
      refused base 0x07 ([6#8, 0#8] ++ be 2 0 ++ be 2 0 ++ [50#8]) .inUse = true ∧
      refused base 0x09 ([3#8, 1#8] ++ be 10 0 ++ [4#8, 0#8]) .badValue = true ∧
      refused base 0x09 (be 8 0 ++ [2#8, 0#8] ++ be 2 0 ++ [4#8, 0#8]) .badValue = true ∧
      refused base 0x0A (0x80#8 :: be 5 0) .badValue = true := by decide +kernel

/-- Service, releases, conditions and service frames. -/
theorem witness_refused_commands :
    refused base 0x0C [] .wrongState = true ∧
      refused { loading with fal := Fal.reset } 0x0C [] .badValue = true ∧
      refused { loading with config := Table.replicate 16 BayConfig.reset } 0x0C [] .badValue = true ∧
      refused loading 0x0D [] .wrongState = true ∧ refused dispatching 0x0D [] .wrongState = true ∧
      refused loading 0x0E [0#8, 0#8] .wrongState = true ∧ refused base 0x0E [8#8, 0#8] .badValue = true ∧
      refused (releasingBase .dispatch (some ⟨7, 2, 5⟩) .ready .unlatching none) 0x0E [2#8, 5#8] .duplicate = true ∧
      refused base 0x0E [2#8, 0#8] .noneReady = true ∧
      refused { base with rot := { Rot.reset with waiting := List.replicate 8 ⟨⟨9, 1, 255⟩, 0⟩ } } 0x0E [2#8, 5#8]
        .listFull = true ∧
      refused dispatching 0x0F [0#8, 3#8] .wrongState = true ∧ refused base 0x0F [0#8, 3#8] .unknownTag = true ∧
      refused base 0x10 [0#8] .badValue = true ∧ refused loading 0x10 [6#8] .wrongState = true ∧
      refused base 0x10 [6#8] .wrongState = true ∧ refused base 0x11 [17#8] .badValue = true ∧
      refused dispatching 0x11 [6#8] .wrongState = true ∧ refused base 0x12 [17#8, 0#8, 0#8] .badValue = true ∧
      refused base 0x12 [0#8, 4#8, 0#8] .badValue = true ∧ refused base 0x12 [1#8, 0x20#8, 0#8] .badValue = true ∧
      refused base 0x13 [] .wrongState = true ∧ refused base 0x15 [17#8] .badValue = true ∧
      refused base 0x15 [6#8] .refusedByMap = true := by decide +kernel

theorem witness_refused_full_line :
    refused { base with
      dlp := { base.dlp with map := { RelayMap.reset with serviceDown := .pass } }
      blc := { base.blc with tx := List.replicate 7 ⟨.service 0 [], 0, false, false, 0⟩ } } 0x15 [6#8] .listFull = true := by
  decide +kernel

/-! ### Writes -/

/-- A head for profile 7 with one step: the limits and the curve of profile 1, no top-up. -/
def headPayload : List Byte :=
  [7#8, 1#8, 45#8, 38#8, 55#8, 0#8, 25#8, 40#8, 50#8, 55#8, 100#8, 100#8, 40#8, 0#8] ++ be 2 40 ++ be 2 60000 ++ be 2 2550 ++
    be 2 0

theorem witness_WriteProfileHeadStoresHead :
    Asked (asking 0x04 headPayload base) 0x04 ⟨0x04, 7, headPayload⟩ [] ∧ headPayload.length = 22 ∧
      finOf 8 (field headPayload 0 1) = some 7 ∧ (asking 0x04 headPayload base).profileInUse 7 = false ∧
      firstTest (headTests (base.profiles.get 7) (headOfPayload headPayload)) = .ok ∧
      (∀ b, (base.bay b).state ≠ .quarantine) ∧ Room base := by
  unfold Room Asked; decide +kernel

/-- A CV step for slot 2 of profile 1. -/
def stepPayload : List Byte := [1#8, 2#8, 1#8] ++ be 2 300 ++ be 2 57600 ++ be 2 0 ++ be 2 40 ++ be 2 0 ++ be 2 240 ++ [1#8]

theorem witness_WriteProfileStepStoresStep :
    Asked (asking 0x05 stepPayload loading) 0x05 ⟨0x05, 7, stepPayload⟩ [] ∧ stepPayload.length = 16 ∧
      finOf 8 (field stepPayload 0 1) = some 1 ∧ field stepPayload 1 1 = 2 ∧
      (asking 0x05 stepPayload loading).judgeStep 1 2 stepPayload =
        (.ok, some ⟨.cv, 300, 57600, 0, 40, 0, 240, .fault⟩) ∧
      (∀ b, (loading.bay b).state ≠ .quarantine) ∧ Room loading := by
  unfold Room Asked; decide +kernel

/-- A registry entry for index 127, with counts action SET. -/
def entryPayload : List Byte := [127#8] ++ be 4 500 ++ [3#8, 1#8, 0#8, 1#8] ++ be 2 9 ++ be 2 8

theorem witness_WriteRegistryStoresEntry :
    Asked (asking 0x06 entryPayload base) 0x06 ⟨0x06, 7, entryPayload⟩ [] ∧ entryPayload.length = 13 ∧
      finOf 128 (field entryPayload 0 1) = some 127 ∧ (asking 0x06 entryPayload base).holderOf 127 = none ∧
      (asking 0x06 entryPayload base).judgeEntry 127 entryPayload = (.ok, some ⟨500, 3, 1, .inFleet, 9, 8⟩) ∧
      (∀ b, (base.bay b).state ≠ .quarantine) ∧ Room base := by
  unfold Room Asked; decide +kernel

/-- Bay 16 with a configuration entry that holds enabled no. -/
def disabled16 : State :=
  { base with config := base.config.set 15 BayConfig.reset, bays := base.bays.set 15 BayRecord.reset }

/-- Bay 16 written enabled, and disabled, and bay 6 written as it is. -/
theorem witness_WriteBayConfigEnablesAndDisables :
    Asked (asking 0x07 ([16#8, 1#8] ++ be 2 800 ++ be 2 58800 ++ [50#8]) disabled16) 0x07
      ⟨0x07, 7, [16#8, 1#8] ++ be 2 800 ++ be 2 58800 ++ [50#8]⟩ [] ∧
      firstTest (disabled16.configTests 15 ⟨true, 800, 58800, 50⟩) = .ok ∧ (disabled16.config.get 15).enabled = false ∧
      Asked (asking 0x07 ([16#8, 0#8] ++ be 2 0 ++ be 2 0 ++ [100#8]) base) 0x07
        ⟨0x07, 7, [16#8, 0#8] ++ be 2 0 ++ be 2 0 ++ [100#8]⟩ [] ∧
      firstTest (base.configTests 15 ⟨false, 0, 0, 100⟩) = .ok ∧ (base.config.get 15).enabled = true ∧
      firstTest (base.configTests 5 ⟨true, 800, 58800, 92⟩) = .ok := by
  unfold Asked; decide +kernel

/-- The stage maximum current of bay 6, in CHARGING with 700 dA granted, written down to 1 dA. -/
theorem witness_bounding :
    Asked (asking 0x07 ([6#8, 1#8] ++ be 2 1 ++ be 2 58800 ++ [92#8]) (bay6 fun r => { r with granted := 700 })) 0x07
      ⟨0x07, 7, [6#8, 1#8] ++ be 2 1 ++ be 2 58800 ++ [92#8]⟩ [] ∧
      firstTest (base.configTests 5 ⟨true, 1, 58800, 92⟩) = .ok ∧ Room base ∧ (base.config.get 5).maxCurrent ≠ 1 ∧
      (base.bayStep 5).map (·.kind) = some .cc ∧ base.inService = true ∧ base.cmn.hold = false ∧
      (base.bay 5).noData = false := by
  unfold Asked Room; decide +kernel

theorem witness_WriteShiftCallReplacesTable :
    Asked (asking 0x08 [17#8, 16#8, 0#8, 1#8, 2#8, 3#8, 4#8, 255#8] base) 0x08
      ⟨0x08, 7, [17#8, 16#8, 0#8, 1#8, 2#8, 3#8, 4#8, 255#8]⟩ [] ∧ Room base ∧
      ∃ t, exec .readStatus base = .next t :=
  ⟨by unfold Asked; decide +kernel, by unfold Room; decide, _, rfl⟩

theorem witness_SetBudgetClampsAndSharesAnew :
    Asked (asking 0x0B (be 6 0 ++ be 6 0) base) 0x0B ⟨0x0B, 7, be 6 0 ++ be 6 0⟩ [] ∧ (be 6 0 ++ be 6 0).length = 12 ∧
      Room base := by
  unfold Room Asked; decide +kernel

/-- A relay map with EVERY_N at N of 2 and 255, and an alarm map with kind 22 in both selections. -/
theorem witness_MapWritesReplaceMaps :
    Room base ∧
      Asked (asking 0x09 [3#8, 2#8, 3#8, 255#8, 2#8, 0#8, 0#8, 0#8, 1#8, 0#8, 1#8, 0#8, 4#8, 0#8] base) 0x09
        ⟨0x09, 7, [3#8, 2#8, 3#8, 255#8, 2#8, 0#8, 0#8, 0#8, 1#8, 0#8, 1#8, 0#8, 4#8, 0#8]⟩ [] ∧
      mapOfPayload [3#8, 2#8, 3#8, 255#8, 2#8, 0#8, 0#8, 0#8, 1#8, 0#8, 1#8, 0#8, 4#8, 0#8] =
        some ⟨.everyN 2, .everyN 255, .onChange, .drop, .all, .all, .pass⟩ ∧
      Asked (asking 0x0A [0x40#8, 0#8, 0#8, 0x40#8, 0#8, 1#8] base) 0x0A
        ⟨0x0A, 7, [0x40#8, 0#8, 0#8, 0x40#8, 0#8, 1#8]⟩ [] ∧
      field [0x40#8, 0#8, 0#8, 0x40#8, 0#8, 1#8] 0 3 < 2 ^ 23 ∧
      field [0x40#8, 0#8, 0#8, 0x40#8, 0#8, 1#8] 3 3 < 2 ^ 23 := by
  unfold Room Asked; decide +kernel

/-! ### Service -/

theorem witness_StartServiceEntersService :
    Asked (asking 0x0C [] loading) 0x0C ⟨0x0C, 7, []⟩ [] ∧ loading.inService = false ∧ loading.fal.budget.feeder ≠ 0 ∧
      (∃ b, (loading.config.get b).enabled = true) ∧ Room loading ∧ loading.cmn.hold = false := by
  unfold Room Asked; decide +kernel

theorem witness_StopServiceEntersLoading :
    Asked (asking 0x0D [] base) 0x0D ⟨0x0D, 7, []⟩ [] ∧ base.inService = true ∧ ∀ b, (base.bay b).state ≠ .releasing := by
  unfold Asked; decide +kernel

/-- A restart whose answer is on the link. -/
def restarting : State :=
  { base with
    mgu := { base.mgu with restartPending := true }
    dlp := { base.dlp with upper := [⟨0x54, 7, [0#8]⟩], sending := some ⟨.upper, []⟩ } }

theorem witness_RestartTakesEffectWhenItsAnswerLeaves :
    Asked (asking 0x14 [] base) 0x14 ⟨0x14, 7, []⟩ [] ∧ Room base ∧ restarting.mgu.restartPending = true ∧
      restarting.dlp.upper = [⟨0x54, 7, [0#8]⟩] ∧ restarting.dlp.sending = some ⟨.upper, []⟩ := by
  unfold Room Asked; decide +kernel

/-! ### Releases -/

/-- A rack with one waiting entry, of tag 9 and limit 1 minute, queued 60 s ago. -/
def waiting1 : State := { base with rot := { Rot.reset with waiting := [⟨⟨9, 2, 1⟩, 7940000⟩] } }

/-- A request served from the ready list, one queued behind seven entries with limit 255, a cancel of a waiting tag, and a
cancel of a tag that nothing holds. -/
theorem witness_ReleaseRequestServesOrQueues :
    Asked (asking 0x0E [2#8, 5#8] readyBase) 0x0E ⟨0x0E, 7, [2#8, 5#8]⟩ [] ∧ readyBase.inService = true ∧
      finOf 8 2 = some 2 ∧ readyBase.tagWaiting 7 = false ∧ readyBase.tagReleasing 7 = false ∧
      readyBase.readyHead 2 = some 5 ∧ (readyBase.bay 5).state = .ready ∧ readyBase.placeFree = true ∧
      Asked (asking 0x0E [2#8, 255#8] base) 0x0E ⟨0x0E, 7, [2#8, 255#8]⟩ [] ∧ base.tagWaiting 7 = false ∧
      base.tagReleasing 7 = false ∧ base.readyHead 2 = none ∧ base.rot.waiting.length < 8 ∧
      Asked (asking 0x0F [0#8, 9#8] waiting1) 0x0F ⟨0x0F, 7, [0#8, 9#8]⟩ [] ∧ waiting1.tagWaiting 9 = true ∧
      waiting1.dlp.queued + 2 ≤ 32 ∧ waiting1.tagWaiting 8 = false ∧ Room waiting1 := by
  unfold Room Asked; decide +kernel

theorem witness_ReleaseBayStartsMaintenanceRelease :
    Asked (asking 0x10 [6#8] readyBase) 0x10 ⟨0x10, 7, [6#8]⟩ [] ∧ bayOf 6 = some 5 ∧ readyBase.inService = true ∧
      (readyBase.bay 5).state = Origin.ready.state ∧ readyBase.placeFree = true ∧
      ((bay6 fun r => { r with state := .fault }).bay 5).state = Origin.fault.state ∧
      ((bay6 fun r => { r with state := .quarantine }).bay 5).state = Origin.quarantine.state := by
  unfold Asked; decide +kernel

/-- Each phase with its deadline now. -/
theorem witness_ReleaseDeadlinesEndTheirPhases :
    (releasingBase .maintenance none .fault .unlatching (some 8000000)).release 5 =
        some ⟨.maintenance, none, .fault, .unlatching, some 8000000⟩ ∧
      (releasingBase .dispatch (some ⟨3, 2, 5⟩) .ready .awaitingPickup (some 8000000)).release 5 =
        some ⟨.dispatch, some ⟨3, 2, 5⟩, .ready, .awaitingPickup, some 8000000⟩ ∧
      (releasingBase .dispatch none .ready .relatching (some 8000000)).release 5 =
        some ⟨.dispatch, none, .ready, .relatching, some 8000000⟩ ∧
      (dispatching.bay 5).state = .releasing ∧ Passed dispatching (some 8000000) ∧ dispatching.placeFree = true :=
  ⟨by decide +kernel, by decide +kernel, by decide +kernel, by decide +kernel, ⟨8000000, rfl, by decide +kernel⟩, by decide +kernel⟩

/-- A failed dispatch release of limit 5 with no ready head and with bay 3 as the head, and one of limit 0. -/
theorem witness_failed_dispatch :
    dispatching.release 5 = some ⟨.dispatch, some ⟨3, 2, 5⟩, .ready, .unlatching, some 8000000⟩ ∧
      dispatching.readyHead 2 = none ∧ dispatching.rot.waiting.length < 8 ∧ dispatching.dlp.queued + 16 ≤ 32 ∧
      (alsoReady dispatching).readyHead 2 = some 2 ∧ ((alsoReady dispatching).bay 2).state = .ready ∧
      (alsoReady dispatching).blc.tx.countP TxEntry.limited ≤ 5 ∧
      (releasingBase .dispatch (some ⟨3, 2, 0⟩) .ready .unlatching (some 8000000)).readyHead 2 = none := by decide +kernel

/-- An entry whose limit of 1 minute ends now, and one whose limit of 254 minutes has not; limit 255 does not expire. -/
theorem witness_WaitingEntriesExpire :
    (⟨⟨9, 2, 1⟩, 7940000⟩ : WaitEntry) ∈ waiting1.rot.waiting ∧ waiting1.inService = true ∧
      7940000 + 1 * 60000 ≤ waiting1.now ∧ Room waiting1 ∧ waiting1.now < 7940000 + 254 * 60000 ∧
      ∀ e ∈ ({ waiting1 with rot := { Rot.reset with waiting := [⟨⟨9, 2, 255⟩, 0⟩] } } : State).rot.waiting,
        e.request.limit = 255 := by
  unfold Room; decide +kernel

/-! ### Bays by request -/

theorem witness_BayResetRebuildsBay :
    Asked (asking 0x11 [6#8] base) 0x11 ⟨0x11, 7, [6#8]⟩ [] ∧ bayOf 6 = some 5 ∧ (base.bay 5).state ≠ .releasing ∧
      (base.bay 5).state ≠ .disabled := by
  unfold Asked; decide +kernel

theorem witness_AckConditionsClearsInactive :
    Room base ∧ Asked (asking 0x12 [0#8, 3#8, 255#8] base) 0x12 ⟨0x12, 7, [0#8, 3#8, 255#8]⟩ [] ∧
      field [0#8, 3#8, 255#8] 1 2 < 1024 ∧
      Asked (asking 0x12 [16#8, 0x1F#8, 255#8] base) 0x12 ⟨0x12, 7, [16#8, 0x1F#8, 255#8]⟩ [] ∧
      bayOf (field [16#8, 0x1F#8, 255#8] 0 1) = some 15 ∧ field [16#8, 0x1F#8, 255#8] 1 2 < 8192 := by
  unfold Room Asked; decide +kernel

/-- A depot on hold with nothing latched. -/
def held : State :=
  { base with cmn := { base.cmn with hold := true }, fal := { base.fal with effective := 0, headroom := 0 } }

theorem witness_ResumeLeavesHold :
    Asked (asking 0x13 [] held) 0x13 ⟨0x13, 7, []⟩ [] ∧ held.cmn.hold = true ∧
      held.cmn.anyLatched held.cmn.map.hold = false ∧ held.dlp.queued + 2 ≤ 32 ∧ held.inService = true := by
  unfold Asked; decide +kernel

/-- A rack whose relay map passes service frames down. -/
def passing : State := { base with dlp := { base.dlp with map := { RelayMap.reset with serviceDown := .pass } } }

/-- A service frame down with no payload, one up of 14 bytes, and frames that are ignored: of station 17, of class 5 with
another source than 31, and of class 2. -/
theorem witness_ServiceFramesPassBothWays :
    Asked (asking 0x15 [6#8] passing) 0x15 ⟨0x15, 7, [6#8]⟩ [] ∧ bayOf 6 = some 5 ∧
      passing.dlp.map.serviceDown ≠ .refuse ∧ (passing.bay 5).state ≠ .disabled ∧ passing.placeFree = true ∧
      Room passing ∧ Heard (hearing 0xE6#8 (be 14 5) base) ⟨0xE6#8, be 14 5, 8000000⟩ [] ∧
      base.frameUse ⟨0xE6#8, be 14 5, 8000000⟩ = .service 5 ∧ base.dlp.map.serviceUp ≠ .onChange ∧ Room base ∧
      base.dlp.queued + 2 ≤ 32 ∧ base.dlp.map.meter = .everyN 5 ∧ base.dlp.map.stage = .onChange ∧
      base.dlp.map.bayState ≠ .onChange ∧
      base.frameUse ⟨0x71#8, [], 0⟩ = .ignored ∧ base.frameUse ⟨0xA6#8, [], 0⟩ = .ignored ∧
      base.frameUse ⟨0x46#8, [], 0⟩ = .ignored ∧
      disabled16.frameUse ⟨0x90#8, [0#8, 1#8], 0⟩ = .ignored := by
  unfold Room Asked Heard; decide +kernel

/-! ### The Depot Link -/

/-- A START_SERVICE frame of tag 7 (R136): its first character, one in its middle, and its last. -/
theorem witness_DepotFrameIsReceivedAsSent :
    base.dlp.rx.length < 8 ∧ (⟨0x0C, 7, []⟩ : DepotFrame).bytes.take 4 = [0#8, 0x0C#8, 0#8, 7#8] ∧
      (⟨0x0C, 7, []⟩ : DepotFrame).bytes.length = 6 ∧
      ({ base with dlp := { base.dlp with receiver := .ready } }).dlp.receiver = .ready ∧
      ({ base with dlp := { base.dlp with receiver := .inFrame [0#8] } }).dlp.receiver = .inFrame [0#8] := by decide +kernel

theorem witness_MalformedDepotFramesAreDiscarded :
    ({ base with dlp := { base.dlp with receiver := .inFrame [0#8] } }).dlp.receiver = .inFrame [0#8] ∧
      56 < (57#8 : Byte).toNat ∧ ({ base with dlp := { base.dlp with receiver := .ready } }).dlp.receiver = .ready ∧
      base.dlp.receiver = .awaitIdle := by decide +kernel

/-- A link with an answer and a relay pair queued. -/
def linked (sending : Option Sending) (upper : List DepotFrame) : State :=
  { base with dlp := { base.dlp with
      upper := upper
      lower := [⟨⟨0xA1, 0, []⟩, some ⟨0xA1, 1, []⟩, none, false⟩]
      sending := sending } }

theorem witness_DepotTransmitterSendsUpperGroupFirst :
    (linked none [⟨0x41, 7, [0#8]⟩]).dlp.sending = none ∧ (linked none [⟨0x41, 7, [0#8]⟩]).dlp.idleLeft = 0 ∧
      (linked none [⟨0x41, 7, [0#8]⟩]).dlp.upper = [⟨0x41, 7, [0#8]⟩] ∧ (linked none []).dlp.upper = [] ∧
      (linked none []).dlp.lower.length = 1 ∧
      (linked (some ⟨.upper, []⟩) [⟨0x41, 7, [0#8]⟩]).mgu.restartPending = false ∧
      (linked (some ⟨.lower, []⟩) []).dlp.sending = some ⟨.lower, []⟩ := by decide +kernel

/-- A full queue whose newest item is a relay item that is not being sent, one without relay items, and one whose only relay
item is being sent. -/
theorem witness_FullQueueShedsNewestRelay :
    32 ≤ ({ base.dlp with
      upper := List.replicate 31 ⟨0x90, 0, []⟩
      lower := [⟨⟨0xA2, 0, []⟩, none, some (.stage 5), false⟩] }).queued ∧
      32 ≤ ({ base.dlp with upper := List.replicate 32 ⟨0x90, 0, []⟩ }).queued ∧
      32 ≤ ({ base.dlp with
        upper := List.replicate 31 ⟨0x90, 0, []⟩
        lower := [⟨⟨0xA2, 0, []⟩, none, some .meter, true⟩] }).queued := by decide +kernel

/-! ### The Bay Line -/

theorem witness_LineStartTakesMostUrgentEntry :
    ({ base with blc := { base.blc with tx := State.reset.blc.tx } }).blc.line = .idle ∧
      ∃ e ∈ State.reset.blc.tx, e.onLine = false := by decide +kernel

theorem witness_LineCompleteRemovesOrRenewsEntry :
    OnLine (onLine ⟨.drive 5, 0, true, true, 0⟩ base) [] [] ⟨.drive 5, 0, true, true, 0⟩ := by
  unfold OnLine; decide +kernel

/-- Losses at 14 and 15 of a SERVICE entry, and the error run at 6 and 7. -/
theorem witness_InterruptedLineFrameKeepsItsPlace :
    OnLine (onLine ⟨.service 5 [], 0, true, false, 14⟩ base) [] [] ⟨.service 5 [], 0, true, false, 14⟩ ∧ 14 + 1 < 16 ∧
      OnLine (onLine ⟨.service 5 [], 0, true, false, 15⟩ base) [] [] ⟨.service 5 [], 0, true, false, 15⟩ ∧ 16 ≤ 15 + 1 ∧
      TxEntry.limited ⟨.drive 5, 0, true, false, 0⟩ = false ∧
      ({ base with blc := { base.blc with errorRun := 6 } }).blc.errorRun + 1 < 8 ∧
      8 ≤ ({ base with blc := { base.blc with errorRun := 7 } }).blc.errorRun + 1 := by
  unfold OnLine; decide +kernel

/-- An UNLATCH entry at its sixteenth loss: of a bay without a release record, and in each phase of a release. -/
theorem witness_discarded_latch_entry :
    OnLine (onLine ⟨.latchCmd 5 .unlatch, 0, true, false, 15⟩ base) [] [] ⟨.latchCmd 5 .unlatch, 0, true, false, 15⟩ ∧
      base.release 5 = none ∧ (dispatching.release 5).map (·.phase) = some .unlatching ∧
      ((releasingBase .maintenance none .fault .awaitingPickup none).release 5).map (·.phase) = some .awaitingPickup ∧
      ((releasingBase .maintenance none .fault .relatching none).release 5).map (·.phase) = some .relatching ∧
      (dispatching.bay 5).state = .releasing := by
  unfold OnLine; decide +kernel

/-- A frame of 16 bytes for the part, one for bay 1, a full receive queue, and frames that are not sound. -/
theorem witness_LineFramesAreReceivedOrDiscarded :
    (be 16 0).length ≤ 16 ∧ base.blc.line = .idle ∧ base.blc.rx.length < 16 ∧
      16 ≤ ({ base.blc with rx := List.replicate 16 ⟨0#8, [], 0⟩ }).rx.length ∧ (1#8 : Byte) ≠ 0#8 ∧ (1#8 : Byte) ≠ 30#8 ∧
      ([1#8, 2#8, 3#8] : List Byte).length < 4 ∧ 16 < field [1#8, 2#8, 17#8, 3#8] 2 1 ∧
      ([1#8, 2#8, 1#8, 3#8] : List Byte).length ≠ 4 + field [1#8, 2#8, 1#8, 3#8] 2 1 ∧
      ([1#8, 0#8, 0#8, 0#8] : List Byte).getLast?.getD 0#8 ≠ crc8 [1#8, 0#8, 0#8] := by decide +kernel

/-- Bay 6 with its refresh due now. -/
def refreshing : State := { base with blc := { base.blc with refresh := base.blc.refresh.set 5 (some 8000000) } }

theorem witness_IdleStartBitAndRefreshAct :
    State.reset.blc.line = .busy ∧ base.blc.line = .idle ∧ (refreshing.config.get 5).enabled = true ∧
      refreshing.blc.refreshAsked.get 5 = false ∧ Passed refreshing (refreshing.blc.refresh.get 5) :=
  ⟨rfl, rfl, by decide +kernel, by decide +kernel, 8000000, by decide +kernel, by decide +kernel⟩

/-- A line in recovery, 20 ms after a pulse. -/
def recovering (pulses : Nat) (s : State) : State :=
  { s with blc := { s.blc with line := .recovery, recovery := some ⟨pulses, 7999980⟩ } }

/-- A stuck line, with its next attempt due now. -/
def stuck : State :=
  { base with
    cmn := { base.cmn with depot := base.cmn.depot.set 3 ⟨true, true⟩ }
    blc := { base.blc with line := .stuck, nextAttempt := some 8000000 } }

theorem witness_RecoveryAttemptsPulseTheLine :
    base.blc.line = .idle ∧ (recovering 8 base).blc.line = .recovery ∧
      (recovering 8 base).blc.recovery = some ⟨8, 7999980⟩ ∧ 7999980 + 20 ≤ (recovering 8 base).now ∧
      (recovering 8 base).lineStuck = false ∧ stuck.blc.line = .stuck ∧ Passed stuck stuck.blc.nextAttempt :=
  ⟨rfl, rfl, rfl, by decide +kernel, by decide +kernel, rfl, 8000000, rfl, by decide +kernel⟩

theorem witness_StuckLineSuspendsAndRestartsDeadlines :
    (recovering 9 base).blc.recovery = some ⟨9, 7999980⟩ ∧ 7999980 + 20 ≤ (recovering 9 base).now ∧
      (recovering 9 base).lineStuck = false ∧ (recovering 1 stuck).lineStuck = true ∧
      (recovering 1 stuck).blc.line = .recovery ∧ stuck.blc.line = .stuck ∧ stuck.lineStuck = true ∧
      stuck.blc.rx.length < 16 := by decide +kernel

/-! ### Dock reports -/

/-- A segment 0 of pack 40213: total count, alive counter, 300 dA, 30 °C, 28 °C, 55 %, group count. -/
def segment (total alive groups : Nat) : List Byte :=
  be 1 total ++ be 1 alive ++ be 4 40213 ++ be 2 50940 ++ be 2 300 ++ [30#8, 28#8, 55#8] ++ be 1 groups

/-- An assembly of bay 6 that waits for group segment 1 of six, 40 ms after segment 0. -/
def assembling : State :=
  { base with rdc := { base.rdc with assembly := base.rdc.assembly.set 5 (some ⟨1, 7999960, segment0Record (segment 7 0 24)⟩) } }

/-- A record of 24 cell groups and one of a single group; a group segment in time and in order, and one out of order. -/
theorem witness_SegmentsAssembleARecord :
    Heard (hearing 0xC6#8 (segment 7 1 24) base) ⟨0xC6#8, segment 7 1 24, 8000000⟩ [] ∧
      base.frameUse ⟨0xC6#8, segment 7 1 24, 8000000⟩ = .segment0 5 ∧ (segment 7 1 24).length = 14 ∧
      (segment0Record (segment 7 1 24)).groups = 24 ∧ (segment0Record (segment 7 1 24)).total = 1 + (24 + 3) / 4 ∧
      (segment0Record (segment 2 1 1)).groups = 1 ∧ (segment0Record (segment 2 1 1)).total = 1 + (1 + 3) / 4 ∧
      assembling.frameUse ⟨0xC6#8, 0x10#8 :: be 8 0, 8000000⟩ = .group 5 ∧
      (assembling.rdc.assembly.get 5).map (fun x => (x.expected, x.stamp + 40, x.part.total)) = some (1, 8000000, 7) ∧
      (⟨0xC6#8, 0x10#8 :: be 8 0, 8000000⟩ : LineFrame).segmentIndex = 1 ∧
      (⟨0xC6#8, 0x60#8 :: be 8 0, 8000000⟩ : LineFrame).segmentIndex = 6 := by
  unfold Heard; decide +kernel

/-- The rack in service with bay 6 in IDENTIFYING without a pack ID. -/
def identifying : State :=
  { base with bays := loading.bays }

/-- Bay 6 in a state with its session. -/
def inState (state : BayState) : State := bay6 fun r => { r with state := state }

/-- A record of one segment for bay 6, in LOADING and in service, of a pack that the registry holds and that is safe. -/
theorem witness_CompleteRecordIsClampedAndStored :
    Heard (hearing 0xC6#8 (segment 1 1 0) loading) ⟨0xC6#8, segment 1 1 0, 8000000⟩ [] ∧
      Completes loading .segment0 ⟨0xC6#8, segment 1 1 0, 8000000⟩ 5 (segment0Record (segment 1 1 0)) ∧
      Fresh loading 5 (segment0Record (segment 1 1 0)) ∧ loading.inService = false ∧
      (loading.bay 5).state = .identifying ∧ RecordSafe identifying 5 (segment0Record (segment 1 1 0)) ∧
      identifying.inService = true ∧ (identifying.registry.get 17).map (·.packId) = some 40213 ∧
      (∀ j, packIdAt identifying j = some 40213 → j = 17) ∧ (identifying.profiles.get 1).complete = true ∧
      (∀ c, c ≠ 5 → (identifying.bay c).identified = true → heldIndex identifying c ≠ some 17) ∧
      RecordSafe (inState .tempWait) 5 (segment0Record (segment 1 1 0)) ∧
      RecordSafe (inState .checking) 5 (segment0Record (segment 1 1 0)) ∧
      (base.bayHead 5).map (·.resumeLimit) = some 38 ∧ (base.bay 5).session = some session1 := by
  refine ⟨?_, ?_, ?_, rfl, rfl, ?_, rfl, ?_, ?_, ?_, ?_, ?_, ?_, ?_, rfl⟩ <;>
    first
    | unfold Heard; decide +kernel
    | unfold Completes; decide +kernel
    | unfold Fresh; decide +kernel
    | unfold RecordSafe; decide +kernel
    | decide +kernel

/-- A record with the pack fault flag, one with another pack ID, and one above the overvoltage limit of 60,000 mV. -/
theorem witness_unsafe_records :
    ¬ RecordSafe base 5 (segment0Record (segment 1 129 0)) ∧
      ¬ RecordSafe (bay6 fun r => { r with packId := some 1 }) 5 (segment0Record (segment 1 1 0)) ∧
      ¬ RecordSafe base 5 { segment0Record (segment 1 1 0) with voltage := 60001 } ∧
      RecordSafe base 5 { segment0Record (segment 1 1 0) with voltage := 60000 } ∧ (base.bay 5).state.withPack = true := by
  unfold RecordSafe; decide +kernel

/-- A record of a single cell group that group segment 1 completes, 40 ms after segment 0. -/
theorem witness_last_group_segment :
    Completes
      { base with rdc := { base.rdc with
        assembly := base.rdc.assembly.set 5 (some ⟨1, 7999960, segment0Record (segment 2 1 1)⟩) } }
      .groupSegment ⟨0xC6#8, [0x10#8, 0x09#8, 0x29#8], 8000000⟩ 5 { segment0Record (segment 2 1 1) with cells := [2345] } := by
  unfold Completes; decide +kernel

/-- Bay 6 in CHARGING in its CC step, far from its end and with its run at 2, and in READY with a top-up voltage. -/
theorem witness_ChargeIsMeteredWithRemainder :
    session1.remainder < 1000 ∧ ({ session1 with remainder := 999, sessionCharge := maxCount }).sessionCharge ≤ maxCount ∧
      Heard (hearing 0xC6#8 (segment 1 1 0) base) ⟨0xC6#8, segment 1 1 0, 8000000⟩ [] ∧
      Completes base .segment0 ⟨0xC6#8, segment 1 1 0, 8000000⟩ 5 (segment0Record (segment 1 1 0)) ∧
      Fresh base 5 (segment0Record (segment 1 1 0)) ∧ RecordSafe base 5 (segment0Record (segment 1 1 0)) ∧
      base.inService = true ∧ (base.bay 5).session = some session1 ∧ base.bayHead 5 = profile1.head ∧
      (base.bayStep 5).isSome = true ∧ (base.bay 5).latest = some ⟨record1, 7999900⟩ ∧
      ¬ Ended ⟨.cc, 600, 57600, 56400, 0, 150, 480, .advance⟩ session1 ∧
      Ended ⟨.cc, 600, 57600, 56400, 0, 150, 480, .advance⟩ (tested ⟨.cc, 600, 57600, 56400, 0, 150, 480, .advance⟩ 0
        { record1 with voltage := 56400 } { session1 with endRun := 2 }) ∧
      (readyBase.bay 5).state = .ready ∧ (readyBase.bay 5).session = some (countedSession 17 7990) ∧
      RecordSafe readyBase 5 (segment0Record (segment 1 1 0)) ∧
      (readyBase.bayHead 5).map (·.topUp) = some 50400 := by
  refine ⟨by decide, by decide, ?_, ?_, ?_, ?_, rfl, rfl, rfl, rfl, rfl, ?_, ?_, rfl, rfl, ?_, ?_⟩ <;>
    first
    | unfold Heard; decide +kernel
    | unfold Completes; decide +kernel
    | unfold Fresh; decide +kernel
    | unfold RecordSafe; decide +kernel
    | unfold Ended; decide +kernel
    | decide +kernel

/-- Waiting requests: one of another type in front of one of type 2. -/
def waiting2 : List WaitEntry := [⟨⟨8, 1, 255⟩, 0⟩, ⟨⟨9, 2, 255⟩, 0⟩]

/-- An entry to READY of a pack of type 2 that finds no request of its type, one that serves tag 9, and one that finds the Bay
Line without a place. -/
theorem witness_enters_ready :
    (∀ e ∈ base.rot.waiting, e.request.packType ≠ session1.packType) ∧
      waiting2 = [⟨⟨8, 1, 255⟩, 0⟩] ++ ⟨⟨9, 2, 255⟩, 0⟩ :: [] ∧
      (∀ x ∈ ([⟨⟨8, 1, 255⟩, 0⟩] : List WaitEntry), x.request.packType ≠ session1.packType) ∧
      (⟨9, 2, 255⟩ : Request).packType = session1.packType ∧ base.placeFree = true ∧ base.dlp.queued + 16 ≤ 32 ∧
      ({ base with blc := { base.blc with tx := List.replicate 7 ⟨.service 0 [], 0, false, false, 0⟩ } } :
        State).placeFree = false := by decide +kernel

/-- A report with mode FAULT, and one with mode CURRENT. -/
theorem witness_StageReportIsStoredAndFaults :
    Heard (hearing 0x66#8 (be 6 0) base) ⟨0x66#8, be 6 0, 8000000⟩ [] ∧
      base.frameUse ⟨0x66#8, 3#8 :: be 5 0, 8000000⟩ = .stage 5 ∧ (be 6 0).length = 6 ∧
      stageModeOf (field (3#8 :: be 5 0) 0 1) = some .fault ∧ stageModeOf (field (1#8 :: be 5 0) 0 1) = some .current ∧
      base.inService = true ∧ (base.bay 5).state.withPack = true ∧ (base.bay 5).state ≠ .releasing ∧
      (base.bay 5).state ≠ .checking := by
  unfold Heard; decide +kernel

/-- Reports at the ends of the 500 mV band and beyond them, and just below 1,000 mV, for bay 6 in CHECKING; and a fault in a
release. -/
theorem witness_connection_check :
    ((bay6 fun r => { r with state := .checking, check := some ⟨1, 1⟩ }).bay 5).check = some ⟨1, 1⟩ ∧
      (base.bay 5).latest.map (·.record.voltage) = some 50940 ∧
      stageModeOf (field (1#8 :: be 2 51440 ++ be 3 0) 0 1) = some .current ∧ field (1#8 :: be 2 51440 ++ be 3 0) 1 2 = 51440 ∧
      field (1#8 :: be 2 51441 ++ be 3 0) 1 2 = 51441 ∧ field (1#8 :: be 2 999 ++ be 3 0) 1 2 = 999 ∧
      dispatching.inService = true ∧ (dispatching.release 5).map (·.phase) = some .unlatching ∧
      dispatching.frameUse ⟨0x66#8, 3#8 :: be 5 0, 8000000⟩ = .stage 5 := by decide +kernel

/-- A docking in bay 4, and in bay 6 a removal, a fault of the latch, and a report that changes nothing. -/
theorem witness_LatchReportDocksRemovesAndFaults :
    Heard (hearing 0x84#8 [0#8, 1#8] base) ⟨0x84#8, [0#8, 1#8], 8000000⟩ [] ∧
      base.frameUse ⟨0x84#8, [0#8, 1#8], 8000000⟩ = .latch 3 ∧ (base.bay 3).state = .empty ∧
      base.frameUse ⟨0x86#8, [0#8, 0#8], 8000000⟩ = .latch 5 ∧ (base.bay 5).state.withPack = true ∧
      (base.bay 5).state ≠ .releasing ∧ latchOf 0 = some .closed ∧ latchOf 2 = some .jammed ∧
      presenceOf 0 = some .absent ∧ presenceOf 1 = some .present := by
  unfold Heard; decide +kernel

/-- A release of each kind, origin and phase, and the latch codes. -/
theorem witness_LatchReportMovesARelease :
    Heard (hearing 0x86#8 [1#8, 1#8] dispatching) ⟨0x86#8, [1#8, 1#8], 8000000⟩ [] ∧
      dispatching.frameUse ⟨0x86#8, [1#8, 1#8], 8000000⟩ = .latch 5 ∧ (dispatching.bay 5).state = .releasing ∧
      dispatching.release 5 = some ⟨.dispatch, some ⟨3, 2, 5⟩, .ready, .unlatching, some 8000000⟩ ∧
      (releasingBase .maintenance none .quarantine .relatching (some 8000000)).release 5 =
        some ⟨.maintenance, none, .quarantine, .relatching, some 8000000⟩ ∧
      (releasingBase .maintenance none .fault .awaitingPickup none).release 5 =
        some ⟨.maintenance, none, .fault, .awaitingPickup, none⟩ ∧
      (releasingBase .dispatch (some ⟨3, 2, 5⟩) .ready .awaitingPickup none).release 5 =
        some ⟨.dispatch, some ⟨3, 2, 5⟩, .ready, .awaitingPickup, none⟩ ∧
      (dispatching.bay 5).session = some session1 ∧ (dispatching.bay 5).readyTime = session1.firstReady ∧
      latchOf 0 = some .closed ∧ latchOf 1 = some .opened ∧ latchOf 2 = some .jammed ∧ presenceOf 0 = some .absent ∧
      presenceOf 1 = some .present ∧ dispatching.dlp.queued + 16 ≤ 32 := by
  unfold Heard; decide +kernel

/-- Readings at the budget, at the budget and margin, and one watt above it with two such readings before; and a silence that
reaches 5 s. -/
theorem witness_MeterReportsAndSilenceAreSupervised :
    Heard (hearing 0xBF#8 (be 3 13001) base) ⟨0xBF#8, be 3 13001, 8000000⟩ [] ∧
      base.frameUse ⟨0xBF#8, be 3 13001, 8000000⟩ = .meter ∧ base.fal.meterSilent = false ∧
      base.fal.effective + base.fal.budget.margin < min 200000 (field (be 3 13001) 0 3) ∧
      min 200000 (field (be 3 13000) 0 3) ≤ base.fal.effective + base.fal.budget.margin ∧
      base.fal.effective < min 200000 (field (be 3 13000) 0 3) ∧
      min 200000 (field (be 3 12000) 0 3) ≤ base.fal.effective ∧
      2 ≤ ({ base.fal with overRun := 2 }).overRun ∧ base.fal.feederOver = false ∧
      ({ base.fal with meterArrival := some 7995000 }).meterArrival.getD 0 + 5000 ≤ base.now := by
  unfold Heard; decide +kernel

/-! ### Step times and deadlines -/

/-- Bay 6 in its CV step for 240 minutes, whose action is FAULT. -/
def timedOutCv : State :=
  bay6 fun r => { r with session := some { session1 with stepIndex := 2, stepTime := 14400, stepCharge := none } }

/-- Bay 6 in its CC step for 480 minutes, whose action is ADVANCE. -/
def timedOutCc : State := bay6 fun r => { r with session := some { session1 with stepTime := 28800 } }

/-- Profile 1 with its CC step the only one. -/
def shortProfile : Profile := ⟨profile1.head.map (fun h => { h with stepCount := 1 }), profile1.steps⟩

/-- The same with that profile. -/
def timedOutLast : State := { timedOutCc with profiles := timedOutCc.profiles.set 1 shortProfile }

theorem witness_StepTimesCountAndTimeOut :
    (base.bay 5).session = some session1 ∧ (base.bay 0).session = none ∧
      0 < ((bay6 fun r => { r with setpoint := ⟨.on, 1, 57600⟩ }).bay 5).setpoint.current ∧
      (timedOutCv.bayStep 5).map (fun p => (p.onTimeout, p.maxTime * 60)) = some (.fault, 14400) ∧
      (timedOutCc.bayStep 5).map (fun p => (p.onTimeout, p.maxTime * 60)) = some (.advance, 28800) ∧
      (timedOutCc.bayHead 5).map (·.stepCount) = some 2 ∧ (timedOutLast.bayHead 5).map (·.stepCount) = some 1 ∧
      (timedOutLast.bayStep 5).map (·.onTimeout) = some .advance ∧ timedOutLast.rot.waiting = [] ∧
      session1.counted = false ∧ (countedSession 17 7990).counted = true := by decide +kernel

theorem witness_DeadlinesMoveBayToFault :
    ((bay6 fun r => { r with state := .identifying, identDeadline := some 8000000 }).bay 5).state = .identifying ∧
      Passed base (some 8000000) ∧
      ((bay6 fun r => { r with state := .checking, checkDeadline := some 8000000 }).bay 5).state = .checking ∧
      (base.bay 5).state.escalates = true ∧
      ((bay6 fun r => { r with noData := true, escalation := some 7940000 }).bay 5).escalation = some 7940000 ∧
      7940000 + 60000 ≤ base.now :=
  ⟨by decide +kernel, ⟨8000000, rfl, by decide +kernel⟩, by decide +kernel, by decide +kernel, by decide +kernel, by decide +kernel⟩

theorem witness_StaleAndLongCoolingBaysAreReported :
    (base.bay 5).state.watched = true ∧ (base.bay 5).noData = false ∧
      ((bay6 fun r => { r with latest := some ⟨record1, 7996999⟩ }).bay 5).latest = some ⟨record1, 7996999⟩ ∧
      7996999 + 3000 < base.now ∧
      ((bay6 fun r => { r with state := .tempWait, entryTime := 800000 }).bay 5).state = .tempWait ∧
      (base.bay 5).longCool = false ∧ 800000 + 7200000 ≤ base.now := by decide +kernel

theorem witness_StopInputRaisesExternalStop :
    base.cmn.xstop = false ∧ base.cmn.map.hold.get 2 = true ∧ (base.flags (.depot .externalStop)).latched = false ∧
      base.cmn.hold = false ∧ (after .xstopAsserted base).cmn.xstop = true := by decide +kernel

end Sys2Proof.Tests
end

/-! Step times and timeouts (R35, R36). The lemmas that the statement needs, in the order of the definitions that they speak
of: what the shared operations keep (`Guards`, `Steady`, `Spares`, `AddsFrames`), the start of a release and its failure at
the latch, the entry to READY, and the end of a step. -/

namespace Sys2Proof.Machine

open Sys2Proof.Safety

/-! ## Conditions, setpoints at rest and the Bay Line queue -/

theorem DepotKind.index_injective : Function.Injective DepotKind.index := by
  intro k l; cases k <;> cases l <;> decide

theorem BayKind.index_injective : Function.Injective BayKind.index := by
  intro k l; cases k <;> cases l <;> decide

@[simp] theorem State.flags_setFlags_self (s : State) (id : CondId) (f : Flags) : (s.setFlags id f).flags id = f := by
  cases id <;> simp [State.setFlags, Cmn.setFlags, State.flags, State.depotFlags, State.bayFlags]

theorem State.flags_setFlags_ne (s : State) {id k : CondId} (f : Flags) (h : k ≠ id) :
    (s.setFlags id f).flags k = s.flags k := by
  cases id with
  | depot i =>
    cases k with
    | depot j =>
      have hj : j.index ≠ i.index := fun e => h (congrArg CondId.depot (DepotKind.index_injective e))
      exact Table.get_set_ne _ _ hj
    | bay j c => rfl
  | bay i b =>
    cases k with
    | depot j => rfl
    | bay j c =>
      simp only [State.setFlags, Cmn.setFlags, State.flags, State.bayFlags]
      by_cases hc : c = b
      · subst hc
        have hj : j.index ≠ i.index := fun e => h (congrArg (CondId.bay · c) (BayKind.index_injective e))
        rw [Table.get_set_self, Table.get_set_ne _ _ hj]
      · rw [Table.get_set_ne _ _ hc]

/-- A bay in a state whose setpoint is OFF 0 0 by R22, with that setpoint. -/
structure BayRecord.Resting (r : BayRecord) : Prop where
  notCharging : r.state ≠ .charging
  notChecking : r.state ≠ .checking
  setpoint : r.setpoint = Setpoint.allOff

theorem State.setpointFor_eq_allOff (s : State) (b : Bay) (h1 : (s.bay b).state ≠ .charging)
    (h2 : (s.bay b).state ≠ .checking) : s.setpointFor b = Setpoint.allOff := by
  unfold State.setpointFor
  dsimp only
  split
  · exact absurd ‹_› h1
  · exact absurd ‹_› h2
  · rfl

/-- What the shared operations keep besides the fields of `Quiet`: latched conditions stay latched, LINE_STUCK stays as it
is, the LATCH_CMD and SERVICE entries of the Bay Line stay, and a resting bay rests. -/
structure Guards (s t : State) : Prop where
  latched : ∀ id, Latched s id → Latched t id
  lineStuck : t.lineStuck = s.lineStuck
  limited : t.blc.tx.filter TxEntry.limited = s.blc.tx.filter TxEntry.limited
  resting : ∀ b, (s.bay b).Resting → (t.bay b).Resting

theorem Guards.refl (s : State) : Guards s s := ⟨fun _ h => h, rfl, rfl, fun _ h => h⟩

theorem Guards.trans {s t u : State} (h : Guards s t) (k : Guards t u) : Guards s u :=
  ⟨fun id e => k.latched id (h.latched id e), k.lineStuck.trans h.lineStuck, k.limited.trans h.limited,
    fun b e => k.resting b (h.resting b e)⟩

theorem Guards.foldl {α : Type} {f : State → α → State} (h : ∀ s a, Guards s (f s a)) (l : List α) (s : State) :
    Guards s (l.foldl f s) := by
  induction l generalizing s with
  | nil => exact Guards.refl s
  | cons a l ih => exact (h s a).trans (ih _)

/-- The conditions, the Bay Line queue and the bay records are all that `Guards` reads. -/
theorem Guards.of_eq {s t : State} (hc : t.cmn = s.cmn) (hb : t.blc = s.blc) (hr : t.bays = s.bays) : Guards s t := by
  cases s; cases t; cases hc; cases hb; cases hr
  exact ⟨fun id h => by cases id <;> exact h, rfl, rfl, fun _ h => h⟩

/-! ### Grants, setpoints and the Bay Line queue -/

theorem State.setTx_guards (s : State) (tx : List TxEntry)
    (h : tx.filter TxEntry.limited = s.blc.tx.filter TxEntry.limited) : Guards s (s.setTx tx) :=
  ⟨fun id e => by cases id <;> exact e, rfl, h, fun _ e => e⟩

/-- A request for an entry that is not of the limited kinds leaves those of the limited kinds (R125, R126). -/
theorem State.requestSingle_guards (s : State) (w : TxWhat) (hw : ∀ e : TxEntry, e.what = w → e.limited = false) :
    Guards s (s.requestSingle w) := by
  unfold State.requestSingle
  split
  · refine s.setTx_guards _ ?_
    induction s.blc.tx with
    | nil => rfl
    | cons e l ih =>
      rw [List.map_cons, List.filter_cons, List.filter_cons, ih]
      by_cases he : e.what = w
      · have h1 := hw e he
        have h2 : ({ e with renewed := true } : TxEntry).limited = false := h1
        split <;> simp only [h1, h2, Bool.false_eq_true, if_false]
      · simp [he]
  · exact s.setTx_guards _ (by simp [hw (s.newEntry w) rfl])

theorem State.requestDrive_guards (s : State) (b : Bay) : Guards s (s.requestDrive b) :=
  s.requestSingle_guards _ fun e h => by simp [TxEntry.limited, h]

theorem State.requestStop_guards (s : State) : Guards s s.requestStop :=
  s.requestSingle_guards _ fun e h => by simp [TxEntry.limited, h]

/-- A change of one bay record that keeps a resting bay at rest. -/
theorem State.modBay_guards (s : State) (b : Bay) (f : BayRecord → BayRecord)
    (h : (s.bay b).Resting → (f (s.bay b)).Resting) : Guards s (s.modBay b f) := by
  refine ⟨fun id e => by cases id <;> exact e, rfl, rfl, fun c hc => ?_⟩
  by_cases e : c = b
  · subst e; rw [State.bay_modBay_self]; exact h hc
  · rw [State.bay_modBay_ne s f e]; exact hc

/-- A change of all bay records that leaves states and setpoints. -/
theorem State.modBays_guards (s : State) (f : Bay → BayRecord → BayRecord)
    (h : ∀ b r, (f b r).state = r.state ∧ (f b r).setpoint = r.setpoint) : Guards s (s.modBays f) := by
  refine ⟨fun id e => by cases id <;> exact e, rfl, rfl, fun c hc => ?_⟩
  obtain ⟨hs, hp⟩ := h c (s.bay c)
  rw [State.bay_modBays]
  exact ⟨hs.trans_ne hc.notCharging, hs.trans_ne hc.notChecking, hp.trans hc.setpoint⟩

theorem State.evalSetpoint_guards (s : State) (b : Bay) : Guards s (s.evalSetpoint b) := by
  unfold State.evalSetpoint
  split
  · exact Guards.refl s
  · refine (s.modBay_guards b _ fun h => ?_).trans (State.requestDrive_guards _ b)
    exact ⟨h.notCharging, h.notChecking, s.setpointFor_eq_allOff b h.notCharging h.notChecking⟩

theorem State.evalAllSetpoints_guards (s : State) : Guards s s.evalAllSetpoints :=
  Guards.foldl (fun s b => s.evalSetpoint_guards b) allBays s

/-- An evaluation leaves a bay with the setpoint that R22 gives it. -/
theorem State.setpoint_evalSetpoint (s : State) (b : Bay) : ((s.evalSetpoint b).bay b).setpoint = s.setpointFor b := by
  unfold State.evalSetpoint
  split
  · exact Eq.symm ‹_›
  · unfold State.requestDrive State.requestSingle
    split <;>
      exact congrArg BayRecord.setpoint (State.bay_modBay_self s b fun r => { r with setpoint := s.setpointFor b })

theorem State.round_guards (s : State) : Guards s s.round := by
  have hw : Guards s s.writeGrants :=
    (s.modBays_guards (fun b r => r.allot (s.allotment b)) fun _ _ => ⟨rfl, rfl⟩).trans (Guards.of_eq rfl rfl rfl)
  refine hw.trans (Guards.foldl (fun t b => ?_) allBays _)
  split
  · exact t.evalSetpoint_guards b
  · exact Guards.refl t

theorem State.askRound_guards (s : State) : Guards s s.askRound := by
  unfold State.askRound
  split
  · exact s.round_guards
  · exact Guards.refl s

theorem State.zeroGrants_guards (s : State) : Guards s s.zeroGrants :=
  (s.modBays_guards (fun _ r => { r with applied := 0, granted := 0 }) fun _ _ => ⟨rfl, rfl⟩).trans
    (Guards.of_eq rfl rfl rfl)

/-! ### Raises and notices -/

/-- New flags of a condition that keep it latched, and keep LINE_STUCK as active as it was. -/
theorem State.setFlags_guards (s : State) (id : CondId) (f : Flags) (hl : (s.flags id).latched = true → f.latched = true)
    (ha : id = .depot .lineStuck → f.active = (s.flags id).active) : Guards s (s.setFlags id f) := by
  refine ⟨fun k hk => ?_, ?_, rfl, fun _ h => h⟩
  · unfold Latched at *
    by_cases e : k = id
    · subst e; rw [State.flags_setFlags_self]; exact hl hk
    · rw [State.flags_setFlags_ne s f e]; exact hk
  · change ((s.setFlags id f).flags (.depot .lineStuck)).active = (s.flags (.depot .lineStuck)).active
    by_cases e : CondId.depot .lineStuck = id
    · subst e; rw [State.flags_setFlags_self]; exact ha rfl
    · rw [State.flags_setFlags_ne s f e]

/-- A change of the Condition Monitor outside the flags. -/
theorem State.cmn_guards (s : State) (c : Cmn) (hd : c.depot = s.cmn.depot) (hb : c.bays = s.cmn.bays) :
    Guards s { s with cmn := c } := by
  refine ⟨fun id h => ?_, ?_, rfl, fun _ h => h⟩
  · cases id <;> simpa only [Latched, State.flags, State.depotFlags, State.bayFlags, hd, hb] using h
  · simp only [State.lineStuck, State.depotFlags, hd]

theorem State.addOrigin_guards (s : State) (id : CondId) : Guards s { s with cmn := s.cmn.addOrigin id } := by
  cases id <;> exact s.cmn_guards _ rfl rfl

theorem State.endCause_guards (s : State) (k : BayKind) (b : Bay) : Guards s (s.endCause (.bay k b)) :=
  s.setFlags_guards _ _ (fun h => h) (fun h => nomatch h)

section Raising

variable {enqueue : State → DepotFrame → State} (hq : ∀ s f, Guards s (enqueue s f))
include hq

theorem State.noticeWith_guards (s : State) (kind : Nat) (p : List Byte) : Guards s (s.noticeWith enqueue kind p) :=
  (Guards.of_eq rfl rfl rfl : Guards s (s.countedFrame kind p).1).trans (hq _ _)

theorem State.enterHoldWith_guards (s : State) (id : CondId) : Guards s (s.enterHoldWith enqueue id) := by
  have h1 : Guards s { s with cmn := { s.cmn.clearOrigin.addOrigin id with hold := true } } := by
    cases id <;> exact s.cmn_guards _ rfl rfl
  exact h1.trans ((State.requestStop_guards _).trans ((State.zeroGrants_guards _).trans
    ((State.evalAllSetpoints_guards _).trans (State.noticeWith_guards hq _ _ _))))

theorem State.holdRuleWith_guards (s : State) (id : CondId) : Guards s (s.holdRuleWith enqueue id) := by
  unfold State.holdRuleWith
  split
  · split
    · exact s.addOrigin_guards id
    · exact State.enterHoldWith_guards hq s id
  · exact Guards.refl s

/-- After its first step, which latches the condition, a raise keeps what is guarded (R168). -/
theorem State.raiseWith_guards_latched (s : State) (id : CondId) (present : Bool)
    (hp : present = true → id ≠ .depot .lineStuck) :
    Guards (s.setFlags id ⟨(s.flags id).active, true⟩) (s.raiseWith enqueue id present) := by
  have mark : ∀ t : State, Guards t (if present then t.setFlags id ⟨true, true⟩ else t).recomputeTrip := by
    intro t
    refine Guards.trans ?_ (State.cmn_guards _ _ rfl rfl)
    cases present with
    | false => exact Guards.refl t
    | true => exact t.setFlags_guards _ _ (fun _ => rfl) (fun e => absurd e (hp rfl))
  unfold State.raiseWith
  by_cases hl : (s.flags id).latched = true
  · simp only [hl, if_true]
    exact mark _
  · simp only [hl]
    exact (State.noticeWith_guards hq _ _ _).trans ((mark _).trans (State.holdRuleWith_guards hq _ _))

theorem State.raiseWith_guards (s : State) (id : CondId) (present : Bool)
    (hp : present = true → id ≠ .depot .lineStuck) : Guards s (s.raiseWith enqueue id present) :=
  (s.setFlags_guards id ⟨(s.flags id).active, true⟩ (fun _ => rfl) (fun _ => rfl)).trans
    (State.raiseWith_guards_latched hq s id present hp)

end Raising

theorem State.admitUpperN_guards (n : Nat) : ∀ s f, Guards s (State.admitUpperN n s f) := by
  induction n with
  | zero => intro s f; exact Guards.of_eq rfl rfl rfl
  | succ n ih =>
    intro s f
    unfold State.admitUpperN
    refine (Guards.of_eq rfl rfl rfl : Guards s { s with dlp := (s.dlp.placeUpper f).1 }).trans ?_
    dsimp only
    split
    · exact Guards.refl _
    · exact State.raiseWith_guards ih _ _ _ (fun h => nomatch h)

theorem State.admitUpper_guards (s : State) (f : DepotFrame) : Guards s (s.admitUpper f) := State.admitUpperN_guards 3 s f

theorem State.raise_guards (s : State) (k : BayKind) (b : Bay) (present : Bool) : Guards s (s.raise (.bay k b) present) :=
  State.raiseWith_guards State.admitUpper_guards s _ present (fun _ h => nomatch h)

theorem State.latched_raise (s : State) (k : BayKind) (b : Bay) (present : Bool) :
    Latched (s.raise (.bay k b) present) (.bay k b) := by
  have h := State.raiseWith_guards_latched State.admitUpper_guards s (.bay k b) present (fun _ h => nomatch h)
  refine h.latched _ ?_
  exact congrArg Flags.latched (s.flags_setFlags_self _ _)

theorem State.notice_guards (s : State) (kind : Nat) (p : List Byte) : Guards s (s.notice kind p) :=
  State.noticeWith_guards State.admitUpper_guards s kind p

theorem State.releaseNotice_guards (s : State) (tag : Option Nat) (o : ReleaseOutcome) (b : Option Bay) :
    Guards s (s.releaseNotice tag o b) := s.notice_guards _ _

end Sys2Proof.Machine

namespace Sys2Proof.Safety

open Sys2Proof.Machine

theorem OtherBaysKept.trans {b : Bay} {s t u : State} (h : OtherBaysKept b s t) (k : OtherBaysKept b t u) :
    OtherBaysKept b s u := fun c hc => (k c hc).trans (h c hc)

theorem OtherBaysKept.modBay (s : State) (b : Bay) (f : BayRecord → BayRecord) : OtherBaysKept b s (s.modBay b f) :=
  fun _ hc => congrArg withoutGrants (State.bay_modBay_ne s f hc)

theorem TablesKept.of_calm {s t : State} (h : Calm s t) (hr : t.registry = s.registry) : TablesKept s t :=
  ⟨h.profiles, h.config, hr, h.budget, h.shiftCall, h.map, h.alarm⟩

end Sys2Proof.Safety

namespace Sys2Proof.Machine

open Sys2Proof.Safety

/-! ## State entry -/

/-- A bay record without grants and setpoint, and without the fields of data freshness (R20, R21). -/
def withoutFreshness (r : BayRecord) : BayRecord := { withoutGrants r with noData := false, escalation := none }

theorem withoutFreshness_of_withoutGrants {r q : BayRecord} (h : withoutGrants r = withoutGrants q) :
    withoutFreshness r = withoutFreshness q :=
  congrArg (fun r : BayRecord => { r with noData := false, escalation := none }) h

theorem state_of_withoutFreshness {r q : BayRecord} (h : withoutFreshness r = withoutFreshness q) : r.state = q.state :=
  (congrArg BayRecord.state h :)

theorem session_of_withoutFreshness {r q : BayRecord} (h : withoutFreshness r = withoutFreshness q) :
    r.session = q.session := (congrArg BayRecord.session h :)

theorem origin_of_withoutFreshness {r q : BayRecord} (h : withoutFreshness r = withoutFreshness q) :
    r.origin = q.origin := (congrArg BayRecord.origin h :)

theorem readyTime_of_withoutFreshness {r q : BayRecord} (h : withoutFreshness r = withoutFreshness q) :
    r.readyTime = q.readyTime := (congrArg BayRecord.readyTime h :)

theorem packId_of_withoutFreshness {r q : BayRecord} (h : withoutFreshness r = withoutFreshness q) :
    r.packId = q.packId := (congrArg BayRecord.packId h :)

theorem entryTime_of_withoutFreshness {r q : BayRecord} (h : withoutFreshness r = withoutFreshness q) :
    r.entryTime = q.entryTime := (congrArg BayRecord.entryTime h :)

/-- The fields that the Bay Sequencer keeps from the reports of a dock. -/
theorem reports_of_withoutFreshness {r q : BayRecord} (h : withoutFreshness r = withoutFreshness q) :
    r.latest = q.latest ∧ r.latch = q.latch ∧ r.presence = q.presence :=
  ⟨(congrArg BayRecord.latest h :), (congrArg BayRecord.latch h :), (congrArg BayRecord.presence h :)⟩

theorem Quiet.own {s t : State} (h : Quiet s t) (b : Bay) : withoutFreshness (t.bay b) = withoutFreshness (s.bay b) :=
  withoutFreshness_of_withoutGrants (h.bays b)

/-- What an event of bay `b` keeps once its record stands as the event sets it: the other bays, the record outside grants,
setpoint and freshness, the registry, the Rotation Unit, and what `Guards` holds. -/
structure Steady (b : Bay) (s t : State) : Prop extends Guards s t where
  others : OtherBaysKept b s t
  own : withoutFreshness (t.bay b) = withoutFreshness (s.bay b)
  registry : t.registry = s.registry
  rot : t.rot = s.rot

theorem Quiet.steady {s t : State} (h : Quiet s t) (g : Guards s t) (b : Bay) : Steady b s t :=
  ⟨g, fun c _ => h.bays c, h.own b, h.registry, h.rot⟩

theorem Steady.refl (b : Bay) (s : State) : Steady b s s := (Quiet.refl s).steady (Guards.refl s) b

theorem Steady.trans {b : Bay} {s t u : State} (h : Steady b s t) (k : Steady b t u) : Steady b s u :=
  ⟨h.toGuards.trans k.toGuards, h.others.trans k.others, k.own.trans h.own, k.registry.trans h.registry, k.rot.trans h.rot⟩

theorem State.evalSetpoint_steady (s : State) (b : Bay) : Steady b s (s.evalSetpoint b) :=
  (s.evalSetpoint_quiet b).steady (s.evalSetpoint_guards b) b

theorem State.askRound_steady (s : State) (b : Bay) : Steady b s s.askRound :=
  s.askRound_quiet.steady s.askRound_guards b

theorem State.raise_steady (s : State) (k : BayKind) (b : Bay) (present : Bool) :
    Steady b s (s.raise (.bay k b) present) :=
  (s.raise_quiet _ _).steady (s.raise_guards k b present) b

theorem State.endCause_steady (s : State) (k : BayKind) (b : Bay) : Steady b s (s.endCause (.bay k b)) :=
  (s.endCause_quiet _).steady (s.endCause_guards k b) b

theorem State.endStateCauses_steady (s : State) (b : Bay) (p n : BayState) : Steady b s (s.endStateCauses b p n) := by
  unfold State.endStateCauses
  dsimp only
  split <;> split
  · exact (s.endCause_steady _ b).trans (State.endCause_steady _ _ b)
  · exact s.endCause_steady _ b
  · exact s.endCause_steady _ b
  · exact Steady.refl b s

theorem State.bayStateNotice_steady (s : State) (b : Bay) (p : BayState) : Steady b s (s.bayStateNotice b p) := by
  unfold State.bayStateNotice
  dsimp only
  have h : ∀ f, Steady b s (s.setCounters f) := fun f =>
    ⟨Guards.of_eq rfl rfl rfl, fun _ _ => rfl, rfl, rfl, rfl⟩
  split
  · exact (h _).trans ((State.notice_quiet _ _ _).steady (State.notice_guards _ _ _) b)
  · exact h _

theorem State.setNoData_steady (s : State) (b : Bay) : Steady b s (s.setNoData b) := by
  have h : ∀ e : BayRecord → Option Time,
      Steady b s (s.modBay b fun r => { r with noData := true, escalation := e r }) := fun e =>
    ⟨s.modBay_guards b _ fun ⟨h1, h2, h3⟩ => ⟨h1, h2, h3⟩, OtherBaysKept.modBay s b _, by rw [State.bay_modBay_self]; rfl, rfl, rfl⟩
  exact (h _).trans ((State.raise_steady _ _ b _).trans (State.evalSetpoint_steady _ b))

/-- What a state entry does after the evaluation of the setpoint (R4), for a bay that stays on or off the ready list. -/
theorem State.enterBase_steady_evalSetpoint (s : State) (b : Bay) (n : BayState) (o : Option Origin)
    (h : ¬((s.bay b).state = .ready ∧ n ≠ .ready ∧ n ≠ .releasing)) :
    Steady b (((s.modBay b (s.entered n o)).endStateCauses b (s.bay b).state n).evalSetpoint b) (s.enterBase b n o) := by
  have fresh : ∀ (c : Bool) (t : State), Steady b t (if c then t.setNoData b else t) := by
    intro c t; cases c
    · exact Steady.refl b t
    · exact t.setNoData_steady b
  have round : ∀ (c : Bool) (t : State), Steady b t (if c then t.askRound else t) := by
    intro c t; cases c
    · exact Steady.refl b t
    · exact t.askRound_steady b
  unfold State.enterBase
  dsimp only
  rw [if_neg h]
  exact (State.bayStateNotice_steady _ b _).trans ((fresh _ _).trans (round _ _))

/-- A state entry of a bay leaves its record as R4 has it, but for grants, setpoint and freshness, and the rest alone. -/
theorem State.enterBase_steady (s : State) (b : Bay) (n : BayState) (o : Option Origin)
    (h : ¬((s.bay b).state = .ready ∧ n ≠ .ready ∧ n ≠ .releasing)) :
    Steady b (s.modBay b (s.entered n o)) (s.enterBase b n o) :=
  (State.endStateCauses_steady _ b _ _).trans ((State.evalSetpoint_steady _ b).trans
    (s.enterBase_steady_evalSetpoint b n o h))

/-- The record of a bay after its state entry, but for grants, setpoint and freshness. -/
theorem State.enterBase_own (s : State) (b : Bay) (n : BayState) (o : Option Origin)
    (h : ¬((s.bay b).state = .ready ∧ n ≠ .ready ∧ n ≠ .releasing)) :
    withoutFreshness ((s.enterBase b n o).bay b) = withoutFreshness (s.entered n o (s.bay b)) :=
  (s.enterBase_steady b n o h).own.trans (congrArg withoutFreshness (State.bay_modBay_self s b _))

theorem State.enterBase_others (s : State) (b : Bay) (n : BayState) (o : Option Origin)
    (h : ¬((s.bay b).state = .ready ∧ n ≠ .ready ∧ n ≠ .releasing)) : OtherBaysKept b s (s.enterBase b n o) :=
  (OtherBaysKept.modBay s b _).trans (s.enterBase_steady b n o h).others

/-- Outside CHARGING and CHECKING the setpoint is OFF 0 0 from the entry on (R22). -/
theorem State.enterBase_resting (s : State) (b : Bay) (n : BayState) (o : Option Origin)
    (h : ¬((s.bay b).state = .ready ∧ n ≠ .ready ∧ n ≠ .releasing)) (h1 : n ≠ .charging) (h2 : n ≠ .checking) :
    ((s.enterBase b n o).bay b).Resting := by
  refine (s.enterBase_steady_evalSetpoint b n o h).resting b ?_
  have e := (State.endStateCauses_steady (s.modBay b (s.entered n o)) b (s.bay b).state n).own.trans
    (congrArg withoutFreshness (State.bay_modBay_self s b _))
  have hn : (((s.modBay b (s.entered n o)).endStateCauses b (s.bay b).state n).bay b).state = n :=
    state_of_withoutFreshness e
  have hn' := (state_of_withoutFreshness (State.evalSetpoint_steady _ b).own).trans hn
  refine ⟨hn'.trans_ne h1, hn'.trans_ne h2, ?_⟩
  rw [State.setpoint_evalSetpoint, State.setpointFor_eq_allOff _ _ (hn.trans_ne h1) (hn.trans_ne h2)]

/-- A condition of a bay raised with its move to FAULT (R18), from a state outside READY and RELEASING. -/
theorem State.raise_enterState_faulted (s : State) (b : Bay) (k : BayKind) (present : Bool)
    (h1 : (s.bay b).state ≠ .ready) (h2 : (s.bay b).state ≠ .releasing) :
    Faulted s ((s.raise (.bay k b) present).enterState b .fault) b k := by
  have q := s.raise_quiet (.bay k b) present
  have hs : ((s.raise (.bay k b) present).bay b).state = (s.bay b).state := state_of_withoutFreshness (q.own b)
  have e : (s.raise (.bay k b) present).enterState b .fault = (s.raise (.bay k b) present).enterBase b .fault none := by
    simp [State.enterState, hs, h2]
  have hu : ¬(((s.raise (.bay k b) present).bay b).state = .ready ∧ BayState.fault ≠ .ready ∧
      BayState.fault ≠ .releasing) := fun h => h1 (hs ▸ h.1)
  have st := State.enterBase_steady _ b .fault none hu
  have own := State.enterBase_own _ b .fault none hu
  rw [e]
  obtain ⟨hlatest, hlatch, hpresence⟩ := reports_of_withoutFreshness own
  obtain ⟨qlatest, qlatch, qpresence⟩ := reports_of_withoutFreshness (q.own b)
  refine ⟨state_of_withoutFreshness own, session_of_withoutFreshness own,
    (State.enterBase_resting _ b .fault none hu (by decide) (by decide)).setpoint,
    (entryTime_of_withoutFreshness own).trans (congrArg Mgu.now q.mgu),
    (packId_of_withoutFreshness own :).trans (packId_of_withoutFreshness (q.own b) :),
    (hlatest :).trans qlatest, hlatch.trans qlatch, hpresence.trans qpresence,
    st.latched _ (s.latched_raise k b present),
    OtherBaysKept.trans (fun c _ => q.bays c) (State.enterBase_others _ b .fault none hu),
    TablesKept.of_calm (q.calm.trans (State.enterBase_calm _ _ _ _)) (st.registry.trans q.registry)⟩

/-! ## The frames that an entry adds to the Depot Link transmit queue -/

/-- The step from `s` to `t` adds at most `k` frames to the Depot Link transmit queue, where the queue has room for them. -/
def AddsFrames (k : Nat) (s t : State) : Prop := s.dlp.queued + k ≤ 32 → t.dlp.queued ≤ s.dlp.queued + k

theorem AddsFrames.of_queued {s t : State} (h : t.dlp.queued = s.dlp.queued) : AddsFrames 0 s t := fun _ => h.le

theorem AddsFrames.of_dlp {s t : State} (h : t.dlp = s.dlp) : AddsFrames 0 s t := .of_queued (congrArg Dlp.queued h)

theorem AddsFrames.trans {j k : Nat} {s t u : State} (h : AddsFrames j s t) (i : AddsFrames k t u) :
    AddsFrames (j + k) s u := by
  intro hk
  have h1 := h (by omega)
  have h2 := i (by omega)
  omega

theorem AddsFrames.mono {j k : Nat} {s t : State} (h : AddsFrames j s t) (hjk : j ≤ k) : AddsFrames k s t := by
  intro hk
  have := h (by omega)
  omega

theorem State.foldl_dlp {α : Type} {f : State → α → State} (h : ∀ s a, (f s a).dlp = s.dlp) (l : List α) (s : State) :
    (l.foldl f s).dlp = s.dlp := by
  induction l generalizing s with
  | nil => rfl
  | cons a l ih => exact (ih _).trans (h s a)

theorem State.requestSingle_dlp (s : State) (w : TxWhat) : (s.requestSingle w).dlp = s.dlp := by
  unfold State.requestSingle; split <;> rfl

theorem State.evalSetpoint_dlp (s : State) (b : Bay) : (s.evalSetpoint b).dlp = s.dlp := by
  unfold State.evalSetpoint
  split
  · rfl
  · exact State.requestSingle_dlp _ _

theorem State.askRound_dlp (s : State) : s.askRound.dlp = s.dlp := by
  unfold State.askRound
  split
  · refine State.foldl_dlp (fun t b => ?_) allBays s.writeGrants
    split
    · exact t.evalSetpoint_dlp b
    · rfl
  · rfl

/-- A notice that finds a place joins the upper group (R142). -/
theorem State.notice_room (s : State) (kind : Nat) (p : List Byte) (h : Room s) :
    s.notice kind p = queuedUpper (s.countedFrame kind p).1 (s.countedFrame kind p).2 :=
  State.admitUpper_room _ _ h

theorem State.notice_addsFrames (s : State) (kind : Nat) (p : List Byte) : AddsFrames 1 s (s.notice kind p) := by
  intro h
  rw [s.notice_room kind p (Nat.lt_of_succ_le h)]
  simp only [queuedUpper, State.countedFrame, Dlp.queued, List.length_append, List.length_singleton]
  omega

theorem State.holdRule_addsFrames (s : State) (id : CondId) :
    AddsFrames 1 s (s.holdRuleWith State.admitUpper id) := by
  unfold State.holdRuleWith
  split
  · split
    · exact (AddsFrames.of_dlp rfl).mono (Nat.zero_le 1)
    · refine AddsFrames.trans (j := 0) (AddsFrames.of_dlp ?_) (State.notice_addsFrames _ _ _)
      exact (State.foldl_dlp State.evalSetpoint_dlp allBays _).trans (State.requestSingle_dlp _ _)
  · exact (AddsFrames.of_dlp rfl).mono (Nat.zero_le 1)

/-- A raise sends a CONDITION notice and a HOLD notice at most (R168, R173). -/
theorem State.raise_addsFrames (s : State) (id : CondId) (present : Bool) : AddsFrames 2 s (s.raise id present) := by
  have mark : ∀ t : State, AddsFrames 0 t (if present then t.setFlags id ⟨true, true⟩ else t).recomputeTrip := by
    intro t; cases present <;> exact AddsFrames.of_dlp rfl
  unfold State.raise State.raiseWith
  by_cases hl : (s.flags id).latched = true
  · simp only [hl, if_true]
    exact ((AddsFrames.of_dlp rfl : AddsFrames 0 s (s.setFlags id _)).trans (mark _)).mono (by decide)
  · simp only [hl]
    exact ((AddsFrames.of_dlp rfl : AddsFrames 0 s (s.setFlags id _)).trans (State.notice_addsFrames _ _ _)).trans
      ((mark _).trans (State.holdRule_addsFrames _ _))

/-- A state entry sends a BAY_STATE notice and the notices of NO_DATA at most (R4, R20). -/
theorem State.enterBase_addsFrames (s : State) (b : Bay) (n : BayState) (o : Option Origin) :
    AddsFrames 3 s (s.enterBase b n o) := by
  have causes : ∀ (t : State) (p : BayState), (t.endStateCauses b p n).dlp = t.dlp := by
    intro t p; unfold State.endStateCauses; dsimp only; split <;> split <;> rfl
  have moved : AddsFrames 0 s (((s.modBay b (s.entered n o)).endStateCauses b (s.bay b).state n).evalSetpoint b) :=
    AddsFrames.of_dlp ((State.evalSetpoint_dlp _ b).trans (causes _ _))
  have noticed : ∀ (t : State) (p : BayState), AddsFrames 1 t (t.bayStateNotice b p) := by
    intro t p
    unfold State.bayStateNotice
    dsimp only
    have counted : ∀ f, AddsFrames 0 t (t.setCounters f) := fun f => .of_queued rfl
    split
    · exact (counted _).trans (State.notice_addsFrames _ _ _)
    · exact (counted _).mono (Nat.zero_le 1)
  have fresh : ∀ (c : Bool) (t : State), AddsFrames 2 t (if c then t.setNoData b else t) := by
    intro c t; cases c
    · exact (AddsFrames.of_dlp rfl : AddsFrames 0 t t).mono (Nat.zero_le 2)
    · have marked : ∀ f, AddsFrames 0 t (t.modBay b f) := fun f => .of_dlp rfl
      exact (marked _).trans ((State.raise_addsFrames _ _ _).trans (AddsFrames.of_dlp (State.evalSetpoint_dlp _ b)))
  have round : ∀ (c : Bool) (t : State), AddsFrames 0 t (if c then t.askRound else t) := by
    intro c t; cases c
    · exact AddsFrames.of_dlp rfl
    · exact AddsFrames.of_dlp t.askRound_dlp
  have left : ∀ t : State, AddsFrames 0 t (t.unlist b).askRound := fun t => .of_dlp (State.askRound_dlp _)
  have upTo := fun c d => ((moved.trans (noticed _ (s.bay b).state)).trans (fresh c _)).trans (round d _)
  unfold State.enterBase
  dsimp only
  split
  · exact (upTo _ _).trans (left _)
  · exact upTo _ _

end Sys2Proof.Machine

namespace Sys2Proof.Machine

open Sys2Proof.Safety

/-! ## LATCH_CMD entries -/

theorem TxEntry.limited_of_latchCmd {e : TxEntry} {b : Bay} {c : LatchCommand} (h : e.what = .latchCmd b c) :
    e.limited = true := by simp [TxEntry.limited, h]

theorem TxEntry.latchCmd_of_waitingLatch {e : TxEntry} {b : Bay} (h : e.waitingLatch b = true) :
    ∃ c, e.what = .latchCmd b c := by
  unfold TxEntry.waitingLatch at h
  split at h
  · next c k hw =>
    have hc : c = b := by simp_all
    exact ⟨k, hc ▸ hw⟩
  · cases h

theorem Guards.mem_limited {s t : State} (h : Guards s t) {e : TxEntry} (hl : e.limited = true) :
    e ∈ t.blc.tx ↔ e ∈ s.blc.tx := by
  have := congrArg (e ∈ ·) h.limited
  simpa [List.mem_filter, hl] using this

theorem Guards.queued_latchCmd {s t : State} (h : Guards s t) {b : Bay} {c : LatchCommand}
    (hq : Queued s (.latchCmd b c)) : Queued t (.latchCmd b c) := by
  obtain ⟨e, he, hw⟩ := hq
  exact ⟨e, (h.mem_limited (TxEntry.limited_of_latchCmd hw)).2 he, hw⟩

theorem Guards.placeFree {s t : State} (h : Guards s t) : t.placeFree = s.placeFree := by
  simp only [State.placeFree, List.countP_eq_length_filter, h.limited]

theorem exists_modifyFirst {α : Type} (p : α → Bool) (f : α → α) {l : List α} (h : l.any p = true) :
    ∃ a ∈ l, p a = true ∧ f a ∈ modifyFirst p f l := by
  induction l with
  | nil => simp at h
  | cons a l ih =>
    by_cases ha : p a = true
    · exact ⟨a, List.mem_cons_self, ha, by simp [modifyFirst, ha]⟩
    · have hl : l.any p = true := by simpa [ha] using h
      obtain ⟨c, hc, hp, hm⟩ := ih hl
      exact ⟨c, List.mem_cons_of_mem a hc, hp, by simp [modifyFirst, ha, hm]⟩

/-- A request for a LATCH_CMD entry changes the Bay Line transmit queue alone. -/
theorem State.requestLatch_eq_setTx (s : State) (b : Bay) (c : LatchCommand) :
    ∃ tx, (s.requestLatch b c).1 = s.setTx tx := by
  unfold State.requestLatch
  split
  · exact ⟨_, rfl⟩
  · split
    · exact ⟨_, rfl⟩
    · exact ⟨s.blc.tx, rfl⟩

/-- A request for a LATCH_CMD entry is admitted where there is a place (R126). -/
theorem State.requestLatch_of_placeFree (s : State) (b : Bay) (c : LatchCommand) (h : s.placeFree = true) :
    (s.requestLatch b c).2 = true ∧ Queued (s.requestLatch b c).1 (.latchCmd b c) := by
  simp only [State.requestLatch, h, if_true]
  split
  · next ha =>
    obtain ⟨e, _, _, hm⟩ := exists_modifyFirst _ (fun e : TxEntry => { e with what := .latchCmd b c }) ha
    exact ⟨rfl, _, hm, rfl⟩
  · exact ⟨rfl, s.newEntry (.latchCmd b c), List.mem_append_right _ List.mem_cons_self, rfl⟩

/-- A request for a LATCH_CMD entry is refused without a place, where no entry of the bay waits (R126). -/
theorem State.requestLatch_refused (s : State) (b : Bay) (c : LatchCommand) (h : s.placeFree = false)
    (hw : ∀ e ∈ s.blc.tx, ∀ k, e.what ≠ .latchCmd b k) : (s.requestLatch b c).2 = false := by
  have ha : s.blc.tx.any (TxEntry.waitingLatch b) = false := by
    rw [List.any_eq_false]
    intro e he hl
    obtain ⟨k, hk⟩ := TxEntry.latchCmd_of_waitingLatch hl
    exact hw e he k hk
  simp [State.requestLatch, ha, h]

/-! ## Releases -/

/-- The waiting list after the start of a release (R81 step 2). -/
def Start.waitingAfter (how : Start) (waiting : List WaitEntry) : List WaitEntry :=
  match how with
  | .served r => waiting.filter fun e => e.request.tag != r.tag
  | _ => waiting

/-- The state in which the bay of a starting release enters RELEASING (R81 steps 1 to 3): off the ready list, its waiting
entry removed, its record open. -/
def State.opened (s : State) (b : Bay) (how : Start) : State :=
  { s with rot := { s.rot with
      ready := s.rot.ready.filter fun c => c != b
      waiting := how.waitingAfter s.rot.waiting
      releases := s.rot.releases.set b
        (some ⟨how.kind, how.request, originOf (s.bay b).state, .unlatching, s.deadline 5000⟩) } }

theorem State.openRelease_eq (s : State) (b : Bay) (how : Start) :
    s.openRelease b how = (s.opened b how).enterBase b .releasing (some (originOf (s.bay b).state)) := by
  cases how <;> rfl

theorem not_leavesReady_releasing {x : BayState} :
    ¬(x = .ready ∧ BayState.releasing ≠ .ready ∧ BayState.releasing ≠ .releasing) := fun h => h.2.2 rfl

/-- What an event leaves of the bays that `P` names: their records outside grants and setpoint and their release records.
No bay joins the ready list, the registry stays, and latched conditions stay latched. -/
structure Spares (P : Bay → Prop) (s t : State) : Prop where
  registry : t.registry = s.registry
  ready : ∀ c ∈ t.rot.ready, c ∈ s.rot.ready
  latched : ∀ id, Latched s id → Latched t id
  bay : ∀ c, P c → withoutGrants (t.bay c) = withoutGrants (s.bay c)
  release : ∀ c, P c → t.release c = s.release c

theorem Guards.latched_of_cmn {s t : State} (h : t.cmn = s.cmn) (id : CondId) (hl : Latched s id) : Latched t id := by
  cases s; cases t; cases h; cases id <;> exact hl

section Sparing

variable {P : Bay → Prop} {s t u : State}

theorem Spares.refl (P : Bay → Prop) (s : State) : Spares P s s :=
  ⟨rfl, fun _ h => h, fun _ h => h, fun _ _ => rfl, fun _ _ => rfl⟩

theorem Spares.trans (h : Spares P s t) (k : Spares P t u) : Spares P s u :=
  ⟨k.registry.trans h.registry, fun c hc => h.ready c (k.ready c hc), fun id e => k.latched id (h.latched id e),
    fun c hc => (k.bay c hc).trans (h.bay c hc), fun c hc => (k.release c hc).trans (h.release c hc)⟩

theorem Spares.not_ready (h : Spares P s t) (hr : ∀ c, P c → c ∉ s.rot.ready) : ∀ c, P c → c ∉ t.rot.ready :=
  fun c hc hm => hr c hc (h.ready c hm)

theorem Quiet.spares (h : Quiet s t) (g : Guards s t) (P : Bay → Prop) : Spares P s t :=
  ⟨h.registry, fun c hc => h.rot ▸ hc, g.latched, fun c _ => h.bays c, fun c _ => by
    simp only [State.release, h.rot]⟩

theorem Steady.spares {b : Bay} (h : Steady b s t) (hP : ∀ c, P c → c ≠ b) : Spares P s t :=
  ⟨h.registry, fun c hc => h.rot ▸ hc, h.latched, fun c hc => h.others c (hP c hc), fun c _ => by
    simp only [State.release, h.rot]⟩

theorem State.setTx_spares (s : State) (tx : List TxEntry) : Spares P s (s.setTx tx) :=
  ⟨rfl, fun _ h => h, Guards.latched_of_cmn rfl, fun _ _ => rfl, fun _ _ => rfl⟩

theorem State.requestLatch_spares (s : State) (b : Bay) (c : LatchCommand) : Spares P s (s.requestLatch b c).1 := by
  obtain ⟨tx, h⟩ := s.requestLatch_eq_setTx b c
  rw [h]; exact s.setTx_spares tx

theorem State.setWaiting_spares (s : State) (w : List WaitEntry) : Spares P s (s.setWaiting w) :=
  ⟨rfl, fun _ h => h, Guards.latched_of_cmn rfl, fun _ _ => rfl, fun _ _ => rfl⟩

theorem State.askRound_spares (s : State) : Spares P s s.askRound := s.askRound_quiet.spares s.askRound_guards P

theorem State.releaseNotice_spares (s : State) (tag : Option Nat) (o : ReleaseOutcome) (b : Option Bay) :
    Spares P s (s.releaseNotice tag o b) :=
  (s.releaseNotice_quiet _ _ _).spares (s.releaseNotice_guards _ _ _) P

theorem State.closeRelease_spares (s : State) {b : Bay} (hP : ∀ c, P c → c ≠ b) : Spares P s (s.closeRelease b) :=
  ⟨rfl, fun _ h => h, Guards.latched_of_cmn rfl, fun _ _ => rfl,
    fun _ hc => State.release_setRelease_ne s none (hP _ hc)⟩

theorem State.enterBase_spares (s : State) {b : Bay} (n : BayState) (o : Option Origin)
    (h : ¬((s.bay b).state = .ready ∧ n ≠ .ready ∧ n ≠ .releasing)) (hP : ∀ c, P c → c ≠ b) :
    Spares P s (s.enterBase b n o) := by
  have moved : Spares P s (s.modBay b (s.entered n o)) :=
    ⟨rfl, fun _ h => h, Guards.latched_of_cmn rfl, fun c hc => OtherBaysKept.modBay s b _ c (hP c hc), fun _ _ => rfl⟩
  exact moved.trans ((s.enterBase_steady b n o h).spares hP)

theorem State.openRelease_spares (s : State) {b : Bay} (how : Start) (hP : ∀ c, P c → c ≠ b) :
    Spares P s (s.openRelease b how) := by
  rw [State.openRelease_eq]
  have opened : Spares P s (s.opened b how) :=
    ⟨rfl, fun c hc => List.mem_of_mem_filter hc, Guards.latched_of_cmn rfl, fun _ _ => rfl,
      fun c hc => Table.get_set_ne _ _ (hP c hc)⟩
  exact opened.trans (State.enterBase_spares _ _ _ not_leavesReady_releasing hP)

section Starting

variable {start : State → Bay → Start → State}
  (hs : ∀ s b how, (∀ c, P c → c ≠ b) → (∀ c, P c → c ∉ s.rot.ready) → Spares P s (start s b how))
include hs

/-- A request that returns after a failed release touches no bay outside the ready list (R88). -/
theorem State.requeueWith_spares (s : State) (b : Bay) (q : Request) (o : ReleaseOutcome)
    (hr : ∀ c, P c → c ∉ s.rot.ready) : Spares P s (s.requeueWith start b q o) := by
  unfold State.requeueWith
  split
  · next head hh =>
    have hm : head ∈ s.rot.ready := List.mem_of_find?_eq_some hh
    exact hs _ _ _ (fun c hc e => hr c hc (e ▸ hm)) hr
  · split
    · exact s.releaseNotice_spares _ _ _
    · exact (s.setWaiting_spares _).trans ((State.askRound_spares _).trans (State.releaseNotice_spares _ _ _ _))

theorem State.endFailedWith_spares (s : State) (b : Bay) (r : ReleaseRecord) (o : ReleaseOutcome)
    (hr : ∀ c, P c → c ∉ s.rot.ready) : Spares P s (s.endFailedWith start b r o) := by
  unfold State.endFailedWith
  split
  · exact s.releaseNotice_spares _ _ _
  · exact State.requeueWith_spares hs _ _ _ _ hr
  · exact Spares.refl P s

end Starting

end Sparing

end Sys2Proof.Machine

namespace Sys2Proof.Machine

open Sys2Proof.Safety

/-! ## Releases that fail at once -/

/-- The record of a bay after steps 1 to 4 of the start of a release, but for grants, setpoint and freshness (R81). -/
theorem State.openRelease_own (s : State) (b : Bay) (how : Start) :
    withoutFreshness ((s.openRelease b how).bay b) =
      withoutFreshness ((s.opened b how).entered .releasing (some (originOf (s.bay b).state)) (s.bay b)) := by
  rw [State.openRelease_eq]
  exact State.enterBase_own _ _ _ _ not_leavesReady_releasing

theorem State.openRelease_state (s : State) (b : Bay) (how : Start) : ((s.openRelease b how).bay b).state = .releasing :=
  state_of_withoutFreshness (s.openRelease_own b how)

/-- Steps 1 to 4 of the start of a release, but for the bay's own record (R81). -/
theorem State.openRelease_steady (s : State) (b : Bay) (how : Start) :
    Steady b ((s.opened b how).modBay b ((s.opened b how).entered .releasing (some (originOf (s.bay b).state))))
      (s.openRelease b how) := by
  rw [State.openRelease_eq]
  exact State.enterBase_steady _ _ _ _ not_leavesReady_releasing

theorem State.bay_closeRelease (s : State) (b c : Bay) : (s.closeRelease b).bay c = s.bay c := rfl

theorem State.cmn_closeRelease (s : State) (b : Bay) : (s.closeRelease b).cmn = s.cmn := rfl

theorem State.openRelease_rot (s : State) (b : Bay) (how : Start) : (s.openRelease b how).rot = (s.opened b how).rot :=
  (s.openRelease_steady b how).rot

theorem State.mem_ready_openRelease (s : State) (b c : Bay) (how : Start) :
    c ∈ (s.openRelease b how).rot.ready ↔ c ∈ s.rot.ready ∧ c ≠ b := by
  rw [State.openRelease_rot]
  simp [State.opened]

/-- A bay whose release has failed at the latch, before its request is handled (R83 steps 1 to 3). -/
def State.failedAtLatch (s : State) (b : Bay) : State :=
  (((s.requestLatch b .relatch).1.raise (.bay .latch b) false).enterBase b .fault none).closeRelease b

theorem State.latchFailureWith_eq (start : State → Bay → Start → State) (s : State) (b : Bay) (r : ReleaseRecord) :
    s.latchFailureWith start b r = (s.failedAtLatch b).endFailedWith start b r .latchFailed := rfl

section FailedAtLatch

variable {s : State} {b : Bay} (hr : (s.bay b).state = .releasing)
include hr

theorem State.failedAtLatch_entry : ¬((((s.requestLatch b .relatch).1.raise (.bay .latch b) false).bay b).state = .ready ∧
    BayState.fault ≠ .ready ∧ BayState.fault ≠ .releasing) := by
  have q := (s.requestLatch_quiet b .relatch).trans (State.raise_quiet _ (.bay .latch b) false)
  rw [state_of_withoutFreshness (q.own b), hr]
  decide

theorem State.failedAtLatch_spares {P : Bay → Prop} (hP : ∀ c, P c → c ≠ b) : Spares P s (s.failedAtLatch b) :=
  (s.requestLatch_spares b _).trans (((State.raise_steady _ _ b _).spares hP).trans
    ((State.enterBase_spares _ _ _ (State.failedAtLatch_entry hr) hP).trans (State.closeRelease_spares _ hP)))

/-- The bay is then in FAULT without its session, its record is closed, and LATCH is latched. -/
theorem State.failedAtLatch_own :
    ((s.failedAtLatch b).bay b).state = .fault ∧ ((s.failedAtLatch b).bay b).session = none ∧
      (s.failedAtLatch b).release b = none ∧ Latched (s.failedAtLatch b) (.bay .latch b) := by
  have hu := State.failedAtLatch_entry hr
  have own := State.enterBase_own _ b .fault none hu
  have entry := State.enterBase_spares (P := fun _ => False) _ .fault none hu fun _ h => h.elim
  unfold State.failedAtLatch
  rw [State.bay_closeRelease]
  exact ⟨state_of_withoutFreshness own, session_of_withoutFreshness own, State.release_setRelease_self _ b none,
    Guards.latched_of_cmn (State.cmn_closeRelease _ b) _
      (entry.latched _ (State.latched_raise _ .latch b false))⟩

end FailedAtLatch

/-- The start of a release touches no bay but its own that is not on the ready list (R81, R83, R88). -/
theorem State.startReleaseN_spares {P : Bay → Prop} (n : Nat) : ∀ s b how, (∀ c, P c → c ≠ b) →
    (∀ c, P c → c ∉ s.rot.ready) → Spares P s (State.startReleaseN n s b how) := by
  induction n with
  | zero => intro s b how _ _; exact Spares.refl P s
  | succ n ih =>
    intro s b how hP hr
    have opened := s.openRelease_spares how hP
    have asked : Spares P s ((s.openRelease b how).requestLatch b .unlatch).1 :=
      opened.trans (State.requestLatch_spares _ b .unlatch)
    have state : (((s.openRelease b how).requestLatch b .unlatch).1.bay b).state = .releasing :=
      (state_of_withoutFreshness ((State.requestLatch_quiet _ b .unlatch).own b)).trans (s.openRelease_state b how)
    have round : ∀ t, Spares P s t → ∀ c : Bool, Spares P s (if c then t.askRound else t) := by
      intro t h c; cases c
      · exact h
      · exact h.trans t.askRound_spares
    unfold State.startReleaseN
    dsimp only
    refine round _ ?_ _
    split
    · split
      · exact asked.trans (State.releaseNotice_spares _ _ _ _)
      · exact asked
    · rw [State.latchFailureWith_eq]
      have failed := asked.trans (State.failedAtLatch_spares state hP)
      exact failed.trans (State.endFailedWith_spares ih _ _ _ _ (failed.not_ready hr))

theorem State.startRelease_spares {P : Bay → Prop} (s : State) (b : Bay) (how : Start) (hP : ∀ c, P c → c ≠ b)
    (hr : ∀ c, P c → c ∉ s.rot.ready) : Spares P s (s.startRelease b how) :=
  State.startReleaseN_spares 17 s b how hP hr

theorem State.startRelease_registry (s : State) (b : Bay) (how : Start) : (s.startRelease b how).registry = s.registry :=
  (s.startRelease_spares (P := fun _ => False) b how (fun _ h => h.elim) (fun _ h => h.elim)).registry

/-- A start for a waiting entry, up to the UNLATCH that the Bay Line is asked for (R81). -/
theorem State.startRelease_admitted (s : State) (b : Bay) (q : Request)
    (h : ((s.openRelease b (.served q)).requestLatch b .unlatch).2 = true) :
    s.startRelease b (.served q) = (((s.openRelease b (.served q)).requestLatch b .unlatch).1.releaseNotice
      (some q.tag) .started (some b)).askRound := by
  simp [State.startRelease, State.startReleaseN, h, Start.announced, Start.fromWaiting, Start.request]

/-- A start for a waiting entry whose UNLATCH the Bay Line refuses (R81, R83). -/
theorem State.startRelease_notAdmitted (s : State) (b : Bay) (q : Request)
    (h : ((s.openRelease b (.served q)).requestLatch b .unlatch).2 = false) :
    s.startRelease b (.served q) =
      ((((s.openRelease b (.served q)).requestLatch b .unlatch).1.failedAtLatch b).endFailedWith
        (State.startReleaseN 16) b ⟨.dispatch, some q, originOf (s.bay b).state, .unlatching, s.deadline 5000⟩
        .latchFailed).askRound := by
  simp [State.startRelease, State.startReleaseN, h, Start.fromWaiting, Start.request, Start.kind,
    State.latchFailureWith_eq]

theorem State.openRelease_guards_blc (s : State) (b : Bay) (how : Start) :
    (s.openRelease b how).placeFree = s.placeFree ∧
      ∀ e : TxEntry, e.limited = true → (e ∈ (s.openRelease b how).blc.tx ↔ e ∈ s.blc.tx) :=
  ⟨(s.openRelease_steady b how).placeFree, fun _ hl => (s.openRelease_steady b how).mem_limited hl⟩

/-- A start for a waiting entry without a place on the Bay Line: the bay ends in FAULT (R81, R83). -/
theorem State.startRelease_refused (s : State) (b : Bay) (q : Request) (hp : s.placeFree = false)
    (hw : ∀ e ∈ s.blc.tx, ∀ c, e.what ≠ .latchCmd b c) :
    ((s.startRelease b (.served q)).bay b).state = .fault ∧ ((s.startRelease b (.served q)).bay b).session = none ∧
      (s.startRelease b (.served q)).release b = none ∧ Latched (s.startRelease b (.served q)) (.bay .latch b) := by
  obtain ⟨place, entries⟩ := s.openRelease_guards_blc b (.served q)
  have refused := State.requestLatch_refused (s.openRelease b (.served q)) b .unlatch (place.trans hp)
    fun e he k hk => hw e ((entries e (TxEntry.limited_of_latchCmd hk)).1 he) k hk
  have state : (((s.openRelease b (.served q)).requestLatch b .unlatch).1.bay b).state = .releasing :=
    (state_of_withoutFreshness ((State.requestLatch_quiet _ b .unlatch).own b)).trans (s.openRelease_state b _)
  have unlisted : ∀ c, c = b → c ∉ (((s.openRelease b (.served q)).requestLatch b .unlatch).1.failedAtLatch b).rot.ready := by
    rintro c rfl hm
    have kept := (State.requestLatch_spares (s.openRelease c (.served q)) c .unlatch).trans
      (State.failedAtLatch_spares (P := fun _ => False) state fun _ h => h.elim)
    exact ((s.mem_ready_openRelease c c (.served q)).1 (kept.ready c hm)).2 rfl
  obtain ⟨hs, hx, hrel, hl⟩ := State.failedAtLatch_own state
  have rest := (State.endFailedWith_spares (State.startReleaseN_spares 16) _ b
    ⟨.dispatch, some q, originOf (s.bay b).state, .unlatching, s.deadline 5000⟩ .latchFailed unlisted).trans
    (State.askRound_spares _)
  rw [s.startRelease_notAdmitted b q refused]
  have kept := withoutFreshness_of_withoutGrants (rest.bay b rfl)
  exact ⟨(state_of_withoutFreshness kept).trans hs, (session_of_withoutFreshness kept).trans hx,
    (rest.release b rfl).trans hrel, rest.latched _ hl⟩

end Sys2Proof.Machine

namespace Sys2Proof.Machine

open Sys2Proof.Safety

/-! ## The start of a release for a waiting request -/

/-- A start for a waiting entry with a place on the Bay Line: the UNLATCH is queued, then STARTED is announced (R81). -/
theorem State.startRelease_placed (s : State) (b : Bay) (q : Request) (hp : s.placeFree = true) :
    ∃ tx, Queued ((s.openRelease b (.served q)).setTx tx) (.latchCmd b .unlatch) ∧
      s.startRelease b (.served q) =
        (((s.openRelease b (.served q)).setTx tx).releaseNotice (some q.tag) .started (some b)).askRound := by
  obtain ⟨place, -⟩ := s.openRelease_guards_blc b (.served q)
  obtain ⟨admitted, queued⟩ :=
    State.requestLatch_of_placeFree (s.openRelease b (.served q)) b .unlatch (place.trans hp)
  obtain ⟨tx, e⟩ := State.requestLatch_eq_setTx (s.openRelease b (.served q)) b .unlatch
  have start := s.startRelease_admitted b q admitted
  rw [e] at queued start
  exact ⟨tx, queued, start⟩

/-- What a bay that starts a release for a waiting entry then is, and what it leaves (R81). -/
theorem State.startRelease_served (s : State) (b : Bay) (q : Request) (hp : s.placeFree = true) :
    withoutFreshness ((s.startRelease b (.served q)).bay b) = withoutFreshness ((s.opened b (.served q)).entered
      .releasing (some (originOf (s.bay b).state)) (s.bay b)) ∧
    ((s.startRelease b (.served q)).bay b).setpoint = Setpoint.allOff ∧
    OtherBaysKept b s (s.startRelease b (.served q)) ∧
    (s.startRelease b (.served q)).rot = (s.opened b (.served q)).rot ∧
    Queued (s.startRelease b (.served q)) (.latchCmd b .unlatch) := by
  obtain ⟨tx, queued, e⟩ := s.startRelease_placed b q hp
  have announced := (((s.openRelease b (.served q)).setTx tx).releaseNotice_quiet (some q.tag) .started (some b)).steady
    (State.releaseNotice_guards _ _ _ _) b
  have rest := announced.trans (State.askRound_steady _ b)
  have resting : ((s.openRelease b (.served q)).bay b).Resting := by
    rw [State.openRelease_eq]
    exact State.enterBase_resting _ b _ _ not_leavesReady_releasing (by decide) (by decide)
  have opened := (OtherBaysKept.modBay (s.opened b (.served q)) b _).trans (s.openRelease_steady b (.served q)).others
  rw [e]
  exact ⟨rest.own.trans (s.openRelease_own b _), (rest.resting b resting).setpoint, opened.trans rest.others,
    rest.rot.trans (s.openRelease_rot b _), rest.queued_latchCmd queued⟩

/-- Where the Depot Link transmit queue has room, the STARTED notice is the last one (R81 step 6, R89). -/
theorem State.startRelease_lastNotice (s : State) (b : Bay) (q : Request) (hp : s.placeFree = true)
    (hroom : s.dlp.queued + 4 ≤ 32) : LastNotice (s.startRelease b (.served q)) 0x90
      (releasePayload (some q.tag) .started (some b) (s.bay b).packId) := by
  obtain ⟨tx, -, e⟩ := s.startRelease_placed b q hp
  have added : AddsFrames 3 (s.opened b (.served q)) (s.openRelease b (.served q)) := by
    rw [State.openRelease_eq]; exact State.enterBase_addsFrames _ _ _ _
  have room : Room ((s.openRelease b (.served q)).setTx tx) := by
    have opened : (s.opened b (.served q)).dlp.queued = s.dlp.queued := rfl
    have h := added (by omega)
    have h' : (s.openRelease b (.served q)).dlp.queued < 32 := by omega
    exact h'
  have pack : (((s.openRelease b (.served q)).setTx tx).bay b).packId = (s.bay b).packId :=
    (packId_of_withoutFreshness (s.openRelease_own b (.served q)) :)
  rw [e]
  unfold LastNotice State.releaseNotice
  rw [State.askRound_dlp, State.notice_room _ _ _ room, Option.bind_some, pack]
  exact ⟨_, List.getLast?_concat⟩

/-! ## The entry to READY -/

theorem mem_insertReady (before : Bay → Bay → Bool) (b c : Bay) (l : List Bay) :
    c ∈ insertReady before b l ↔ c = b ∨ c ∈ l := by
  induction l with
  | nil => simp [insertReady]
  | cons d l ih =>
    unfold insertReady
    split
    · exact List.mem_cons
    · rw [List.mem_cons, ih, List.mem_cons]
      exact or_left_comm

/-- The Rotation Unit's part of the entry to READY of a bay outside RELEASING (R73). -/
theorem State.enterState_ready (s : State) (b : Bay) (h : (s.bay b).state ≠ .releasing) :
    s.enterState b .ready = (s.enterBase b .ready none).readyEntered b := by
  simp [State.enterState, h]

theorem not_leavesReady_ready {x : BayState} :
    ¬(x = .ready ∧ BayState.ready ≠ .ready ∧ BayState.ready ≠ .releasing) := fun h => h.2.1 rfl

theorem State.readyEntered_registry (s : State) (b : Bay) : (s.readyEntered b).registry = s.registry := by
  unfold State.readyEntered
  split
  · rfl
  · split
    · exact s.startRelease_registry b _
    · exact (State.askRound_quiet (s.joinReady b)).registry

/-- The entry of a bay to READY leaves the registry. -/
theorem State.enterState_ready_registry (s : State) (b : Bay) (h : (s.bay b).state ≠ .releasing) :
    (s.enterState b .ready).registry = s.registry := by
  rw [s.enterState_ready b h, State.readyEntered_registry]
  exact (s.enterBase_steady b .ready none not_leavesReady_ready).registry

section ReadyBay

variable {s : State} {b : Bay} {y : Session} (hy : (s.bay b).session = some y)
include hy

theorem State.readyEntered_of_notAwaited (h : ∀ w ∈ s.rot.waiting, w.request.packType ≠ y.packType) :
    s.readyEntered b = (s.joinReady b).askRound := by
  have find : s.rot.waiting.find? (fun w => w.request.packType == y.packType) = none := by
    rw [List.find?_eq_none]
    exact fun w hw hp => h w hw (by simpa using hp)
  simp [State.readyEntered, hy, find]

theorem State.readyEntered_of_awaited {before behind : List WaitEntry} {w : WaitEntry}
    (h : s.rot.waiting = before ++ w :: behind) (hbefore : ∀ x ∈ before, x.request.packType ≠ y.packType)
    (hw : w.request.packType = y.packType) : s.readyEntered b = s.startRelease b (.served w.request) := by
  have find : s.rot.waiting.find? (fun w => w.request.packType == y.packType) = some w := by
    rw [List.find?_eq_some_iff_append]
    exact ⟨by simpa using hw, before, behind, h, fun x hx => by simpa using hbefore x hx⟩
  simp [State.readyEntered, hy, find]

variable (hs : (s.bay b).state = .ready)
include hs

/-- A READY bay that no request awaits stands on the ready list and is otherwise as it was (R73). -/
theorem State.joinReady_askRound_listed (ht : (s.bay b).readyTime = y.firstReady) :
    (((s.joinReady b).askRound).bay b).state = .ready ∧ (((s.joinReady b).askRound).bay b).session = some y ∧
      (((s.joinReady b).askRound).bay b).readyTime = y.firstReady ∧
      (∀ c, c ∈ (s.joinReady b).askRound.rot.ready ↔ c = b ∨ c ∈ s.rot.ready) ∧
      (s.joinReady b).askRound.rot.waiting = s.rot.waiting ∧ OtherBaysKept b s (s.joinReady b).askRound := by
  have round := State.askRound_steady (s.joinReady b) b
  refine ⟨(state_of_withoutFreshness round.own).trans hs, (session_of_withoutFreshness round.own).trans hy,
    (readyTime_of_withoutFreshness round.own).trans ht, fun c => ?_, (congrArg Rot.waiting round.rot :), round.others⟩
  rw [round.rot]
  exact mem_insertReady _ _ _ _

/-- A READY bay that serves a waiting request is in RELEASING from READY with its session and ready time (R80, R81). -/
theorem State.startRelease_served_fields (q : Request) (hp : s.placeFree = true) :
    ((s.startRelease b (.served q)).bay b).state = .releasing ∧
      ((s.startRelease b (.served q)).bay b).origin = some .ready ∧
      ((s.startRelease b (.served q)).bay b).session = some y ∧
      ((s.startRelease b (.served q)).bay b).readyTime = y.firstReady ∧
      (s.startRelease b (.served q)).release b = some ⟨.dispatch, some q, .ready, .unlatching, s.deadline 5000⟩ := by
  obtain ⟨own, -, -, rot, -⟩ := s.startRelease_served b q hp
  rw [hs] at own
  refine ⟨state_of_withoutFreshness own, origin_of_withoutFreshness own, (session_of_withoutFreshness own :).trans hy,
    ?_, ?_⟩
  · rw [readyTime_of_withoutFreshness own]
    exact congrArg (Option.bind · (·.firstReady)) hy
  · rw [State.release, rot]
    simp [State.opened, hs, originOf, Start.kind, Start.request]

end ReadyBay

/-- The lists after the start of a release for a waiting entry (R74, R75, R81). -/
theorem State.startRelease_served_lists (s : State) (b : Bay) (q : Request) (hp : s.placeFree = true) :
    (∀ c, c ∈ (s.startRelease b (.served q)).rot.ready ↔ c ∈ s.rot.ready ∧ c ≠ b) ∧
      (s.startRelease b (.served q)).rot.waiting = s.rot.waiting.filter (fun x => x.request.tag != q.tag) := by
  obtain ⟨-, -, -, rot, -⟩ := s.startRelease_served b q hp
  rw [rot]
  exact ⟨fun c => by simp [State.opened], rfl⟩

/-- A bay with a session that enters READY joins the ready list or serves the first waiting request of its type (R73). -/
theorem State.enterState_ready_entersReady (s : State) (b : Bay) (y : Session) (h : (s.bay b).state ≠ .releasing)
    (hy : (s.bay b).session = some y) : EntersReady s (s.enterState b .ready) b y := by
  rw [s.enterState_ready b h]
  have entry := s.enterBase_steady b .ready none not_leavesReady_ready
  have own := s.enterBase_own b .ready none not_leavesReady_ready
  have others := s.enterBase_others b .ready none not_leavesReady_ready
  have now : (s.enterBase b .ready none).now = s.now := congrArg Mgu.now (s.enterBase_calm b .ready none).mgu
  have frames := s.enterBase_addsFrames b .ready none
  generalize s.enterBase b .ready none = e at *
  have rot : e.rot = s.rot := entry.rot
  have place : e.placeFree = s.placeFree := entry.placeFree
  have deadline : e.deadline 5000 = if s.lineStuck = true then none else some (s.now + 5000) := by
    have stuck : e.lineStuck = s.lineStuck := entry.lineStuck
    rw [State.deadline, stuck, now]
  have state : (e.bay b).state = .ready := state_of_withoutFreshness own
  have session : (e.bay b).session = some y := (session_of_withoutFreshness own :).trans hy
  have ready : (e.bay b).readyTime = y.firstReady := by
    rw [readyTime_of_withoutFreshness own]
    exact congrArg (Option.bind · (·.firstReady)) hy
  have pack : (e.bay b).packId = (s.bay b).packId := (packId_of_withoutFreshness own :)
  constructor
  · intro notAwaited
    rw [State.readyEntered_of_notAwaited session (rot.symm ▸ notAwaited)]
    obtain ⟨jState, jSession, jReady, jList, jWaiting, jOthers⟩ := State.joinReady_askRound_listed session state ready
    rw [rot] at jList jWaiting
    exact ⟨jState, jSession, jReady, (jList b).2 (Or.inl rfl), fun c hc => (jList c).trans (or_iff_right hc), jWaiting,
      others.trans jOthers⟩
  · intro before w behind hw hbefore htype
    rw [State.readyEntered_of_awaited session (rot.symm ▸ hw) hbefore htype]
    refine ⟨fun free => ?_, fun full unasked => ?_⟩
    · have free' := place.trans free
      obtain ⟨rState, rOrigin, rSession, rReady, rRecord⟩ :=
        State.startRelease_served_fields session state w.request free'
      obtain ⟨-, rSetpoint, rOthers, -, rQueued⟩ := e.startRelease_served b w.request free'
      obtain ⟨rList, rWaiting⟩ := e.startRelease_served_lists b w.request free'
      rw [rot] at rList rWaiting
      refine ⟨rState, rOrigin, rSession, rReady, rSetpoint, rRecord.trans (by rw [deadline]),
        fun hb => ((rList b).1 hb).2 rfl, fun c hc => (rList c).trans (and_iff_left hc), rWaiting, rQueued,
        others.trans rOthers, fun room => ?_⟩
      rw [← pack]
      have added := frames (by omega)
      exact e.startRelease_lastNotice b w.request free' (by omega)
    · refine e.startRelease_refused b w.request (place.trans full) fun x hx c hc => ?_
      exact unasked x ((entry.mem_limited (TxEntry.limited_of_latchCmd hc)).1 hx) c hc

end Sys2Proof.Machine

namespace Sys2Proof

theorem Table.set_set {n : Nat} {α : Type} (t : Table n α) (i : Fin n) (a c : α) : (t.set i a).set i c = t.set i c := by
  simp [Table.set]

end Sys2Proof

namespace Sys2Proof.Safety

open Sys2Proof.Machine

/-- `EntersReady` reads of the state before the event neither the session of the bay nor the registry. -/
theorem EntersReady.of_setBay {s t : State} {b : Bay} {y : Session} {r : BayRecord}
    {registry : Table 128 (Option RegEntry)} (hr : r.packId = (s.bay b).packId)
    (h : EntersReady { s.setBay b r with registry := registry } t b y) : EntersReady s t b y := by
  have others : OtherBaysKept b { s.setBay b r with registry := registry } t → OtherBaysKept b s t :=
    OtherBaysKept.trans fun c hc => congrArg withoutGrants (s.bay_setBay_ne r hc)
  have pack : (State.bay { s.setBay b r with registry := registry } b).packId = (s.bay b).packId :=
    (congrArg BayRecord.packId (s.bay_setBay_self b r)).trans hr
  obtain ⟨listed, served⟩ := h
  refine ⟨fun hn => ?_, fun before e behind hw hb he => ?_⟩
  · obtain ⟨h1, h2, h3, h4, h5, h6, h7⟩ := listed hn
    exact ⟨h1, h2, h3, h4, h5, h6, others h7⟩
  · obtain ⟨placed, refused⟩ := served before e behind hw hb he
    refine ⟨fun hp => ?_, refused⟩
    rw [pack] at placed
    obtain ⟨h1, h2, h3, h4, h5, h6, h7, h8, h9, h10, h11, h12⟩ := placed hp
    exact ⟨h1, h2, h3, h4, h5, h6, h7, h8, h9, h10, others h11, h12⟩

end Sys2Proof.Safety

namespace Sys2Proof.Machine

open Sys2Proof.Safety

/-! ## The end of a step -/

theorem State.exec_stepTimeout (s : State) (b : Bay) :
    exec (.stepTimeout b) s = .next (if s.stepTimedOut b then s.timeoutStep b else s) := rfl

/-- The registry after the completion of a session (R43, R101). -/
def State.completedRegistry (s : State) (x : Session) : Table 128 (Option RegEntry) :=
  if x.counted then s.registry
  else s.registry.set x.registryIndex ((s.registry.get x.registryIndex).map (·.count x.sessionCharge))

/-- The state in which the bay of a completed session enters READY (R43). -/
def State.withCompleted (s : State) (b : Bay) (x : Session) : State :=
  { s.setBay b { s.bay b with session := some (completed s x) } with registry := s.completedRegistry x }

theorem State.bay_withCompleted (s : State) (b : Bay) (x : Session) :
    (s.withCompleted b x).bay b = { s.bay b with session := some (completed s x) } := s.bay_setBay_self b _

/-- A completion writes the completed session and the registry, and then the bay enters READY (R43). -/
theorem State.completeSession_eq (s : State) (b : Bay) (x : Session) (hx : (s.bay b).session = some x) :
    s.completeSession b = (s.withCompleted b x).enterState b .ready := by
  have written : (if x.counted then s else s.countSession b x).modSession b
      (fun y => { y with taperRun := 0, endRun := 0 }) = s.withCompleted b x := by
    unfold State.withCompleted
    cases hc : x.counted with
    | true => simp [State.modSession, State.modBay, hx, completed, State.completedRegistry, hc, State.setBay]
    | false =>
      simp [State.modSession, State.countSession, State.modBay, State.setBay, State.bay, Table.set_set, completed,
        State.completedRegistry, hc, State.seconds, State.now]
  simp only [State.completeSession, hx]
  exact congrArg (State.enterState · b .ready) written

/-- The completion of a session outside RELEASING: the bay enters READY (R43, R73). -/
theorem State.completeSession_entersReady (s : State) (b : Bay) (x : Session) (hx : (s.bay b).session = some x)
    (hs : (s.bay b).state ≠ .releasing) : EntersReady s (s.completeSession b) b (completed s x) := by
  have state : ((s.withCompleted b x).bay b).state ≠ .releasing := by rw [s.bay_withCompleted]; exact hs
  have session : ((s.withCompleted b x).bay b).session = some (completed s x) := by rw [s.bay_withCompleted]
  rw [s.completeSession_eq b x hx]
  exact EntersReady.of_setBay (r := { s.bay b with session := some (completed s x) })
    (registry := s.completedRegistry x) rfl (State.enterState_ready_entersReady _ b _ state session)

/-- The first completion of a session counts it in the registry, and a later one does not (R43, R101). -/
theorem State.completeSession_countedOnce (s : State) (b : Bay) (x : Session) (hx : (s.bay b).session = some x)
    (hs : (s.bay b).state ≠ .releasing) : CountedOnce s (s.completeSession b) x := by
  have state : ((s.withCompleted b x).bay b).state ≠ .releasing := by rw [s.bay_withCompleted]; exact hs
  have kept : (s.completeSession b).registry = s.completedRegistry x := by
    rw [s.completeSession_eq b x hx]
    exact State.enterState_ready_registry _ b state
  intro i
  rw [kept, State.completedRegistry]
  cases hc : x.counted with
  | true => simp
  | false =>
    rw [if_neg (by decide), Table.get_set]
    by_cases hi : i = x.registryIndex
    · subst hi; simp [RegEntry.count]
    · simp [hi]

/-- A session at its next step, with that step's quota loaded (R38, R41). -/
def State.advanced (s : State) (x : Session) : Session :=
  { x with
    stepIndex := x.stepIndex + 1
    stepTime := 0
    taperRun := 0
    endRun := 0
    stepCharge := loadQuota (s.stepOf { x with stepIndex := x.stepIndex + 1 }) }

theorem State.nextStep_eq (s : State) (b : Bay) (x : Session) : s.nextStep b x =
    ((s.modBay b fun r => { r with session := some (s.advanced x) }).evalSetpoint b).askRound := rfl

theorem State.advanced_stepCharge (s : State) (x : Session) (q : ProfileStep) (hq : s.stepOf (s.advanced x) = some q) :
    (s.advanced x).stepCharge = if q.quota = 0 then none else some (q.quota * 3600) :=
  congrArg loadQuota hq

/-- The move to the next step stays in the state and touches the session of the bay alone (R41). -/
theorem State.nextStep_advances (s : State) (b : Bay) (x : Session) :
    ((s.nextStep b x).bay b).state = (s.bay b).state ∧ ((s.nextStep b x).bay b).session = some (s.advanced x) ∧
      OtherBaysKept b s (s.nextStep b x) ∧ TablesKept s (s.nextStep b x) := by
  have rest := (State.evalSetpoint_steady (s.modBay b fun r => { r with session := some (s.advanced x) }) b).trans
    (State.askRound_steady _ b)
  rw [← State.nextStep_eq] at rest
  have own := rest.own
  rw [State.bay_modBay_self] at own
  exact ⟨(state_of_withoutFreshness own :), (session_of_withoutFreshness own :),
    (OtherBaysKept.modBay s b _).trans rest.others, TablesKept.of_calm (s.nextStep_calm b x) rest.registry⟩

/-! ## Step times and timeouts -/

theorem State.endStep_of_lt (s : State) (b : Bay) (x : Session) (h : ProfileHead) (hx : (s.bay b).session = some x)
    (hh : s.bayHead b = some h) (hlt : x.stepIndex < h.stepCount) : s.endStep b = s.nextStep b x := by
  have head : s.headOf x = some h := by simpa [State.bayHead, hx] using hh
  simp [State.endStep, hx, head, hlt]

theorem State.endStep_of_le (s : State) (b : Bay) (x : Session) (h : ProfileHead) (hx : (s.bay b).session = some x)
    (hh : s.bayHead b = some h) (hle : h.stepCount ≤ x.stepIndex) : s.endStep b = s.completeSession b := by
  have head : s.headOf x = some h := by simpa [State.bayHead, hx] using hh
  simp [State.endStep, hx, head, hle]

/-- STEP_TIMEOUT of a bay in CHARGING whose step has a maximum time that its step time has reached (R36). -/
theorem State.exec_stepTimeout_due (s : State) (b : Bay) (x : Session) (p : ProfileStep)
    (hs : (s.bay b).state = .charging) (hx : (s.bay b).session = some x) (hp : s.bayStep b = some p)
    (hm : p.maxTime ≠ 0) (ht : p.maxTime * 60 ≤ x.stepTime) :
    exec (.stepTimeout b) s = .next (s.timeoutStep b) := by
  have due : s.stepTimedOut b = true := by simp [State.stepTimedOut, hs, hx, hp, hm, ht]
  rw [State.exec_stepTimeout, if_pos due]

theorem State.timeoutStep_of_fault (s : State) (b : Bay) (p : ProfileStep) (hp : s.bayStep b = some p)
    (ha : p.onTimeout = .fault) : s.timeoutStep b = (s.raise (.bay .stepTimeout b) false).enterState b .fault := by
  simp [State.timeoutStep, hp, ha]

theorem State.timeoutStep_of_advance (s : State) (b : Bay) (p : ProfileStep) (hp : s.bayStep b = some p)
    (ha : p.onTimeout = .advance) : s.timeoutStep b = s.endStep b := by
  simp [State.timeoutStep, hp, ha]

theorem State.exec_stepTimeAdvance (s : State) : exec .stepTimeAdvance s = .next s.advanceStepTimes := rfl

theorem State.bay_advanceStepTimes (s : State) (b : Bay) : s.advanceStepTimes.bay b =
    if s.stepTimeRuns b then
      { s.bay b with session := (s.bay b).session.map fun x => { x with stepTime := min maxCount (x.stepTime + 1) } }
    else s.bay b := State.bay_modBays _ _ _

/-- The step time of a bay runs in CHARGING, outside hold, in a REST step or with a setpoint current above 0 (R35). -/
theorem State.stepTimeRuns_iff (s : State) (b : Bay) : s.stepTimeRuns b = true ↔
    (s.bay b).state = .charging ∧ s.cmn.hold = false ∧
      ((∃ p, s.bayStep b = some p ∧ p.kind = .rest) ∨ 0 < (s.bay b).setpoint.current) := by
  simp [State.stepTimeRuns, Option.any_eq_true, and_assoc]

/-- STEP_TIME_ADVANCE (R34, R35). -/
theorem stepTimeAdvance_counts (s : State) : ∃ t, exec .stepTimeAdvance s = .next t ∧
    (∀ b x, (s.bay b).session = some x → (s.bay b).state = .charging → s.cmn.hold = false →
      ((∃ p, s.bayStep b = some p ∧ p.kind = .rest) ∨ 0 < (s.bay b).setpoint.current) →
      t.bay b = { s.bay b with session := some { x with stepTime := min 4294967295 (x.stepTime + 1) } }) ∧
    (∀ b, (s.bay b).session = none ∨ (s.bay b).state ≠ .charging ∨ s.cmn.hold = true ∨
      ((∀ p, s.bayStep b = some p → p.kind ≠ .rest) ∧ (s.bay b).setpoint.current = 0) → t.bay b = s.bay b) ∧
    { t with bays := s.bays } = s := by
  refine ⟨s.advanceStepTimes, s.exec_stepTimeAdvance, fun b x hx hs hh hr => ?_, fun b hn => ?_, rfl⟩
  · rw [State.bay_advanceStepTimes, if_pos ((s.stepTimeRuns_iff b).2 ⟨hs, hh, hr⟩), hx]
    rfl
  · rw [State.bay_advanceStepTimes]
    split
    · next runs =>
      obtain ⟨hs, hh, hr⟩ := (s.stepTimeRuns_iff b).1 runs
      obtain hx | hs' | hh' | ⟨hk, hc⟩ := hn
      · rw [hx]
        exact congrArg (fun y => { s.bay b with session := y }) hx.symm
      · exact absurd hs hs'
      · exact absurd (hh'.symm.trans hh) (by decide)
      · obtain ⟨p, hp, hpk⟩ | hpos := hr
        · exact absurd hpk (hk p hp)
        · omega
    · rfl

/-- Settles O57: the advance by the rule of R35, and a timeout by its action, through the state entry of R4 (FAULT), the move
to the next step (R41), or the completion of the session and its entry to READY (R43, R73). -/
theorem stepTimesCountAndTimeOut : Obligations.StepTimesCountAndTimeOut := by
  refine ⟨stepTimeAdvance_counts, fun s b x p h hs hx hp hh hm ht => ?_⟩
  have due := s.exec_stepTimeout_due b x p hs hx hp hm ht
  have resides : (s.bay b).state ≠ .releasing := by rw [hs]; decide
  refine ⟨fun action => ?_, fun action hlt => ?_, fun action hle => ?_⟩
  · rw [s.timeoutStep_of_fault b p hp action] at due
    exact ⟨_, due, s.raise_enterState_faulted b .stepTimeout false (by rw [hs]; decide) resides⟩
  · rw [s.timeoutStep_of_advance b p hp action, s.endStep_of_lt b x h hx hh hlt] at due
    obtain ⟨state, session, others, tables⟩ := s.nextStep_advances b x
    exact ⟨_, s.advanced x, due, state.trans hs, session, rfl, s.advanced_stepCharge x, others, tables⟩
  · rw [s.timeoutStep_of_advance b p hp action, s.endStep_of_le b x h hx hh hle] at due
    exact ⟨_, due, s.completeSession_entersReady b x hx resides, s.completeSession_countedOnce b x hx resides⟩

end Sys2Proof.Machine

/-! The allocation arithmetic (R56 to R63): the derating curve and the stages of the demand, then the shares of one class and
the classes in turn. -/

namespace Sys2Proof.Machine

/-! ## The derating curve -/

/-- A segment of the curve stays between its two percents (R57). -/
theorem derateOn_between {p q : DeratePoint} {t : Int} (hp : p.temp ≤ t) (hq : t < q.temp) :
    ((min p.percent q.percent : Nat) : Int) ≤ derateOn p q t ∧ derateOn p q t ≤ (max p.percent q.percent : Nat) := by
  have width : 0 < q.temp - p.temp := by omega
  have reach : 0 ≤ t - p.temp := by omega
  have within : t - p.temp ≤ q.temp - p.temp := by omega
  rw [derateOn, Int.fdiv_eq_ediv_of_nonneg _ width.le]
  rcases le_total p.percent q.percent with rising | falling
  · have rise : 0 ≤ (q.percent : Int) - p.percent := by omega
    have low := Int.ediv_nonneg (mul_nonneg reach rise) width.le
    have high := Int.ediv_le_of_le_mul width
      ((mul_le_mul_of_nonneg_right within rise).trans_eq (mul_comm _ _))
    omega
  · have fall : (q.percent : Int) - p.percent ≤ 0 := by omega
    have low := (Int.le_ediv_iff_mul_le width).2
      ((mul_comm _ _).trans_le (mul_le_mul_of_nonpos_right within fall))
    have high := Int.ediv_le_ediv width (mul_nonpos_of_nonneg_of_nonpos reach fall)
    rw [Int.zero_ediv] at high
    omega

@[simp] theorem derateOn_first (p q : DeratePoint) : derateOn p q p.temp = p.percent := by
  simp [derateOn]

/-- The temperatures of the curve's points ascend, as R28 requires. -/
structure ProfileHead.CurveAscends (h : ProfileHead) : Prop where
  first : h.d1.temp < h.d2.temp
  second : h.d2.temp < h.d3.temp
  third : h.d3.temp < h.d4.temp

/-- The three segments of the curve (R57). -/
def ProfileHead.segments (h : ProfileHead) : List (DeratePoint × DeratePoint) :=
  [(h.d1, h.d2), (h.d2, h.d3), (h.d3, h.d4)]

theorem ProfileHead.mem_segments (h : ProfileHead) {p q : DeratePoint} : (p, q) ∈ h.segments ↔
    p = h.d1 ∧ q = h.d2 ∨ p = h.d2 ∧ q = h.d3 ∨ p = h.d3 ∧ q = h.d4 := by
  simp [segments]

theorem deratePercent_below {h : ProfileHead} {t : Int} (ht : t ≤ h.d1.temp) : deratePercent h t = h.d1.percent := by
  simp [deratePercent, ht]

theorem deratePercent_above {h : ProfileHead} {t : Int} (asc : h.CurveAscends) (ht : h.d4.temp ≤ t) :
    deratePercent h t = h.d4.percent := by
  obtain ⟨h12, h23, h34⟩ := asc
  simp [deratePercent, ht, show ¬ t ≤ h.d1.temp by omega]

/-- On a segment the percent is that of the segment; the first point, which is given apart, lies on it as well (R57). -/
theorem deratePercent_segment {h : ProfileHead} {t : Int} {p q : DeratePoint} (asc : h.CurveAscends)
    (hpq : (p, q) ∈ h.segments) (hp : p.temp ≤ t) (hq : t < q.temp) : (deratePercent h t : Int) = derateOn p q t := by
  obtain ⟨h12, h23, h34⟩ := asc
  have nonneg : 0 ≤ derateOn p q t := (Int.natCast_nonneg _).trans (derateOn_between hp hq).1
  suffices on : deratePercent h t = (derateOn p q t).toNat by rw [on, Int.toNat_of_nonneg nonneg]
  obtain ⟨rfl, rfl⟩ | ⟨rfl, rfl⟩ | ⟨rfl, rfl⟩ := h.mem_segments.1 hpq
  · rcases hp.eq_or_lt with rfl | hp
    · simp [deratePercent]
    · simp [deratePercent, hq, show ¬ t ≤ h.d1.temp by omega, show ¬ h.d4.temp ≤ t by omega]
  · simp [deratePercent, hq, show ¬ t ≤ h.d1.temp by omega, show ¬ h.d4.temp ≤ t by omega,
      show ¬ t < h.d2.temp by omega]
  · simp [deratePercent, show ¬ t ≤ h.d1.temp by omega, show ¬ h.d4.temp ≤ t by omega,
      show ¬ t < h.d2.temp by omega, show ¬ t < h.d3.temp by omega]

theorem deratePercent_segment_between {h : ProfileHead} {t : Int} {p q : DeratePoint} (asc : h.CurveAscends)
    (hpq : (p, q) ∈ h.segments) (hp : p.temp ≤ t) (hq : t < q.temp) :
    min p.percent q.percent ≤ deratePercent h t ∧ deratePercent h t ≤ max p.percent q.percent := by
  have between := derateOn_between hp hq
  rw [← deratePercent_segment asc hpq hp hq] at between
  exact_mod_cast between

/-- Every temperature lies below the curve, above it or on one of its segments. -/
theorem ProfileHead.below_or_above_or_segment (h : ProfileHead) (t : Int) :
    t ≤ h.d1.temp ∨ h.d4.temp ≤ t ∨ ∃ p q, (p, q) ∈ h.segments ∧ p.temp ≤ t ∧ t < q.temp := by
  by_cases h1 : t ≤ h.d1.temp
  · exact .inl h1
  by_cases h4 : h.d4.temp ≤ t
  · exact .inr (.inl h4)
  refine .inr (.inr ?_)
  by_cases h2 : t < h.d2.temp
  · exact ⟨h.d1, h.d2, by simp [segments], by omega, h2⟩
  by_cases h3 : t < h.d3.temp
  · exact ⟨h.d2, h.d3, by simp [segments], by omega, h3⟩
  · exact ⟨h.d3, h.d4, by simp [segments], by omega, by omega⟩

/-- A curve whose percents reach no further than 100 gives none beyond it (R57). -/
theorem deratePercent_le_hundred {h : ProfileHead} (asc : h.CurveAscends) (h1 : h.d1.percent ≤ 100)
    (h2 : h.d2.percent ≤ 100) (h3 : h.d3.percent ≤ 100) (h4 : h.d4.percent ≤ 100) (t : Int) :
    deratePercent h t ≤ 100 := by
  obtain below | above | ⟨p, q, hpq, hp, hq⟩ := h.below_or_above_or_segment t
  · exact (deratePercent_below below).trans_le h1
  · exact (deratePercent_above asc above).trans_le h4
  · refine (deratePercent_segment_between asc hpq hp hq).2.trans (max_le_iff.2 ?_)
    obtain ⟨rfl, rfl⟩ | ⟨rfl, rfl⟩ | ⟨rfl, rfl⟩ := h.mem_segments.1 hpq
    exacts [⟨h1, h2⟩, ⟨h2, h3⟩, ⟨h3, h4⟩]

/-! ## The stages of the demand -/

/-- The capped current of stages 3 and 4 (R58). -/
def cappedCurrent (h : ProfileHead) (p : ProfileStep) (c : BayConfig) (t : Int) : Nat :=
  min (p.currentLimit * deratePercent h t / 100) c.maxCurrent

section Charging

variable {s : State} {b : Bay} {x : Session} {p : ProfileStep} {h : ProfileHead} {a : Arrived}

/-- A REST step or NO_DATA leaves no demand (R56). -/
theorem State.demandOf_of_idle (hs : (s.bay b).state = .charging) (hx : (s.bay b).session = some x)
    (hp : s.stepOf x = some p) (hh : s.headOf x = some h) (ha : (s.bay b).latest = some a)
    (idle : p.kind = .rest ∨ (s.bay b).noData = true) : s.demandOf b = Demand.zero := by
  simp [State.demandOf, State.bayStep, State.bayHead, hs, hx, hp, hh, ha, idle]

/-- Any other charging bay demands what stages 2 to 7 give (R57 to R60). -/
theorem State.demandOf_of_active (hs : (s.bay b).state = .charging) (hx : (s.bay b).session = some x)
    (hp : s.stepOf x = some p) (hh : s.headOf x = some h) (ha : (s.bay b).latest = some a)
    (active : p.kind ≠ .rest) (fresh : (s.bay b).noData = false) :
    (s.demandOf b).iDem = reclaimed s.fal.budget.reclaim (s.bay b).setpoint.current a.record.current.toNat
        (cappedCurrent h p (s.config.get b) a.record.highest) ∧
      (s.demandOf b).vLim = min p.voltageTarget (s.config.get b).maxVoltage ∧
      (s.demandOf b).watts = acDemand (s.demandOf b).iDem (s.demandOf b).vLim (s.config.get b).efficiency := by
  simp [State.demandOf, State.bayStep, State.bayHead, hs, hx, hp, hh, ha, active, fresh, cappedCurrent]

end Charging

/-- Settles O15: the demand by its two cases, and the percent by where the temperature lies on the curve. -/
theorem demandFollowsStagesAndCurve : Obligations.DemandFollowsStagesAndCurve := by
  refine ⟨fun s b x p h a hs hx hp hh ha => ⟨State.demandOf_of_idle hs hx hp hh ha, fun active fresh => ?_⟩,
    fun h t h12 h23 h34 h1 h2 h3 h4 => ?_⟩
  · obtain ⟨current, voltage, watts⟩ := State.demandOf_of_active hs hx hp hh ha active fresh
    exact ⟨_, rfl, current, voltage, watts⟩
  · have asc : h.CurveAscends := ⟨h12, h23, h34⟩
    exact ⟨deratePercent_below, deratePercent_above asc,
      fun p q hpq hp hq => ⟨deratePercent_segment asc hpq hp hq, deratePercent_segment_between asc hpq hp hq⟩,
      deratePercent_le_hundred asc h1 h2 h3 h4 t⟩

/-! ## The further watts of a short class -/

/-- How many bays have a share below their demand (R63). -/
def openBays (gs as : List Nat) : Nat := (gs.zip as).countP fun x => x.1 < x.2

@[simp] theorem openBays_nil_left (as : List Nat) : openBays [] as = 0 := rfl

@[simp] theorem openBays_nil_right (gs : List Nat) : openBays gs [] = 0 := by simp [openBays]

theorem openBays_cons (g a : Nat) (gs as : List Nat) :
    openBays (g :: gs) (a :: as) = openBays gs as + if g < a then 1 else 0 := by
  simp [openBays, List.countP_cons]

theorem openBays_take_mono (gs as : List Nat) {j k : Nat} (hjk : j ≤ k) :
    openBays (gs.take j) (as.take j) ≤ openBays (gs.take k) (as.take k) := by
  simp only [openBays, List.zip, ← List.take_zipWith]
  exact (List.take_sublist_take_left hjk).countP_le

@[simp] theorem addWatts_zero (gs as : List Nat) : addWatts 0 gs as = gs := by simp [addWatts]

theorem addWatts_cons_of_lt {g a : Nat} (h : g < a) (r : Nat) (gs as : List Nat) :
    addWatts (r + 1) (g :: gs) (a :: as) = (g + 1) :: addWatts r gs as := if_pos h

theorem addWatts_cons_of_not_lt {g a : Nat} (h : ¬ g < a) (r : Nat) (gs as : List Nat) :
    addWatts (r + 1) (g :: gs) (a :: as) = g :: addWatts (r + 1) gs as := if_neg h

@[simp] theorem addWatts_nil_left (r : Nat) (as : List Nat) : addWatts r [] as = [] := by cases r <;> simp [addWatts]

@[simp] theorem addWatts_nil_right (r : Nat) (gs : List Nat) : addWatts r gs [] = gs := by cases r <;> simp [addWatts]

/-- The induction along the bays: no watt is left, no bay is left, or the first bay takes a watt or is passed over. -/
theorem addWatts_induction {P : Nat → List Nat → List Nat → Prop} (zero : ∀ gs as, P 0 gs as)
    (noShare : ∀ r as, P r [] as) (noDemand : ∀ r gs, P r gs [])
    (takes : ∀ r g gs a as, g < a → P r gs as → P (r + 1) (g :: gs) (a :: as))
    (passed : ∀ r g gs a as, ¬ g < a → P (r + 1) gs as → P (r + 1) (g :: gs) (a :: as)) (r : Nat) (gs as : List Nat) :
    P r gs as := by
  induction r, gs, as using addWatts.induct with
  | case1 gs as => exact zero gs as
  | case2 r g gs a as below ih => exact takes r g gs a as below ih
  | case3 r g gs a as full ih => exact passed r g gs a as full ih
  | case4 r gs as ended =>
    match gs, as with
    | [], as => exact noShare _ as
    | gs, [] => exact noDemand _ gs
    | g :: gs, a :: as => exact absurd rfl (ended g gs a as rfl)

@[simp] theorem length_addWatts (r : Nat) (gs as : List Nat) : (addWatts r gs as).length = gs.length := by
  induction r, gs, as using addWatts_induction with
  | zero | noShare | noDemand => simp
  | takes r g gs a as below ih => simp [addWatts_cons_of_lt below, ih]
  | passed r g gs a as full ih => simp [addWatts_cons_of_not_lt full, ih]

/-- As many watts are added as there are bays to take them. -/
theorem sum_addWatts (r : Nat) (gs as : List Nat) : (addWatts r gs as).sum = gs.sum + min r (openBays gs as) := by
  induction r, gs, as using addWatts_induction with
  | zero | noShare | noDemand => simp
  | takes r g gs a as below ih =>
    rw [addWatts_cons_of_lt below, openBays_cons, if_pos below, List.sum_cons, List.sum_cons, ih]
    omega
  | passed r g gs a as full ih =>
    rw [addWatts_cons_of_not_lt full, openBays_cons, if_neg full, List.sum_cons, List.sum_cons, ih]
    omega

/-- The rule of R63: a bay below its demand takes a further watt while fewer than `r` such bays stand before it. -/
theorem getElem?_addWatts {r : Nat} {gs as : List Nat} {k g a : Nat} (hg : gs[k]? = some g) (ha : as[k]? = some a) :
    (addWatts r gs as)[k]? = some (if g < a ∧ openBays (gs.take k) (as.take k) < r then g + 1 else g) := by
  induction r, gs, as using addWatts_induction generalizing k with
  | zero => simpa using hg
  | noShare | noDemand => simp at hg ha
  | takes r g₀ gs a₀ as below ih =>
    rw [addWatts_cons_of_lt below]
    cases k with
    | zero =>
      obtain ⟨rfl, rfl⟩ : g₀ = g ∧ a₀ = a := by simpa using And.intro hg ha
      simp [below]
    | succ k => simpa [openBays_cons, below] using ih hg ha
  | passed r g₀ gs a₀ as full ih =>
    rw [addWatts_cons_of_not_lt full]
    cases k with
    | zero =>
      obtain ⟨rfl, rfl⟩ : g₀ = g ∧ a₀ = a := by simpa using And.intro hg ha
      simp [full]
    | succ k => simpa only [List.getElem?_cons_succ, List.take_succ_cons, openBays_cons, if_neg full,
      Nat.add_zero] using ih hg ha

/-! ## The shares of one class -/

/-- The floors of the exact shares (R62). -/
def floorShares (R S : Nat) (demands : List Nat) : List Nat := demands.map fun a => R * a / S

@[simp] theorem length_floorShares (R S : Nat) (demands : List Nat) :
    (floorShares R S demands).length = demands.length := List.length_map _

theorem shareClass_of_le {R : Nat} {demands : List Nat} (h : demands.sum ≤ R) : shareClass R demands = demands :=
  if_pos h

theorem shareClass_of_lt {R : Nat} {demands : List Nat} (h : R < demands.sum) : shareClass R demands =
    addWatts (R - (floorShares R demands.sum demands).sum) (floorShares R demands.sum demands) demands :=
  if_neg (by omega)

@[simp] theorem length_shareClass (R : Nat) (demands : List Nat) : (shareClass R demands).length = demands.length := by
  rcases le_or_gt demands.sum R with fits | short
  · rw [shareClass_of_le fits]
  · simp [shareClass_of_lt short]

/-- The floors take no more than the exact shares. -/
theorem mul_sum_floorShares_le (R S : Nat) (demands : List Nat) :
    S * (floorShares R S demands).sum ≤ R * demands.sum := by
  induction demands with
  | nil => rfl
  | cons a as ih =>
    have head := Nat.mul_div_le (R * a) S
    simp only [floorShares, List.map_cons, List.sum_cons, mul_add] at ih ⊢
    omega

/-- The floors and a watt for each bay below its demand make up the exact shares: what a floor cuts off is less than a watt,
and it cuts nothing off the share of a bay that has its demand (R63). -/
theorem mul_sum_le_floorShares_add_openBays {R S : Nat} (hR : R < S) (demands : List Nat) :
    R * demands.sum ≤ S * ((floorShares R S demands).sum + openBays (floorShares R S demands) demands) := by
  induction demands with
  | nil => simp
  | cons a as ih =>
    have head : R * a ≤ S * (R * a / S) + S * if R * a / S < a then 1 else 0 := by
      split
      · have := Nat.lt_mul_div_succ (R * a) (Nat.zero_lt_of_lt hR)
        linarith
      · next full =>
        calc R * a ≤ S * a := Nat.mul_le_mul_right a hR.le
          _ ≤ S * (R * a / S) := Nat.mul_le_mul_left S (not_lt.1 full)
          _ ≤ _ := Nat.le_add_right _ _
    simp only [floorShares, List.map_cons, List.sum_cons, openBays_cons, mul_add] at ih ⊢
    omega

/-- The shares of a class that is short sum to the remainder (R63). -/
theorem sum_shareClass_of_lt {R : Nat} {demands : List Nat} (short : R < demands.sum) :
    (shareClass R demands).sum = R := by
  have total : 0 < demands.sum := Nat.zero_lt_of_lt short
  have upper : (floorShares R demands.sum demands).sum ≤ R :=
    Nat.le_of_mul_le_mul_left ((mul_sum_floorShares_le R _ demands).trans_eq (mul_comm _ _)) total
  have lower : R ≤ (floorShares R demands.sum demands).sum + openBays (floorShares R demands.sum demands) demands :=
    Nat.le_of_mul_le_mul_left ((mul_comm _ _).trans_le (mul_sum_le_floorShares_add_openBays short demands)) total
  rw [shareClass_of_lt short, sum_addWatts]
  omega

/-- The open bays before bay `k` in a class that is short. -/
def openBefore (R : Nat) (demands : List Nat) (k : Nat) : Nat :=
  openBays ((floorShares R demands.sum demands).take k) (demands.take k)

/-- A share in a class that is short (R62, R63). -/
theorem getElem_shareClass_of_lt {R : Nat} {demands : List Nat} (short : R < demands.sum) {k : Nat}
    (hk : k < demands.length) (hk' : k < (shareClass R demands).length) :
    (shareClass R demands)[k] = if R * demands[k] / demands.sum < demands[k] ∧
        openBefore R demands k < R - (floorShares R demands.sum demands).sum
      then R * demands[k] / demands.sum + 1 else R * demands[k] / demands.sum := by
  apply Option.some.inj
  rw [← List.getElem?_eq_getElem hk']
  conv_lhs => rw [shareClass_of_lt short]
  exact getElem?_addWatts (by simp [floorShares, hk]) (List.getElem?_eq_getElem hk)

/-- The share of a bay in a class that is short: the floor of its exact share or a watt more, and no more than its demand. -/
theorem getElem_shareClass_bounds {R : Nat} {demands : List Nat} (short : R < demands.sum) (k : Nat)
    (hk : k < demands.length) (hk' : k < (shareClass R demands).length) :
    R * demands[k] / demands.sum ≤ (shareClass R demands)[k] ∧
      (shareClass R demands)[k] ≤ R * demands[k] / demands.sum + 1 ∧ (shareClass R demands)[k] ≤ demands[k] := by
  have within : R * demands[k] / demands.sum ≤ demands[k] :=
    Nat.div_le_of_le_mul (Nat.mul_le_mul_right _ short.le)
  rw [getElem_shareClass_of_lt short hk hk']
  split <;> omega

/-- Once a bay below its demand goes without a further watt, so does every bay behind it (R63). -/
theorem getElem_shareClass_eq_of_passed {R : Nat} {demands : List Nat} (short : R < demands.sum) (j k : Nat)
    (hj : j < demands.length) (hj' : j < (shareClass R demands).length) (hk : k < demands.length)
    (hk' : k < (shareClass R demands).length) (hjk : j < k) (below : R * demands[j] / demands.sum < demands[j])
    (without : (shareClass R demands)[j] = R * demands[j] / demands.sum) :
    (shareClass R demands)[k] = R * demands[k] / demands.sum := by
  have spent : R - (floorShares R demands.sum demands).sum ≤ openBefore R demands j := by
    rw [getElem_shareClass_of_lt short hj hj'] at without
    by_contra left
    rw [if_pos ⟨below, not_le.1 left⟩] at without
    omega
  have behind : openBefore R demands j ≤ openBefore R demands k := openBays_take_mono _ _ hjk.le
  rw [getElem_shareClass_of_lt short hk hk', if_neg (by omega)]

/-! ## The classes in turn -/

/-- What the classes before `cls` leave of the budget (R61). -/
def remainderBefore (budget : Nat) (rows : List (Option Nat × Nat)) (cls : Nat) : Nat :=
  (List.range cls).foldl (fun r c => remainderAfter r (classDemands rows c)) budget

/-- The shares of one class in the round (R61). -/
def classShares (budget : Nat) (rows : List (Option Nat × Nat)) (cls : Nat) : List Nat :=
  shareClass (remainderBefore budget rows cls) (classDemands rows cls)

theorem apportion_eq (budget : Nat) (rows : List (Option Nat × Nat)) : apportion budget rows =
    List.zipWith (· + ·) (List.zipWith (· + ·) (classShares budget rows 0) (classShares budget rows 1))
      (List.zipWith (· + ·) (classShares budget rows 2) (classShares budget rows 3)) := rfl

@[simp] theorem length_classShares (budget : Nat) (rows : List (Option Nat × Nat)) (cls : Nat) :
    (classShares budget rows cls).length = rows.length := by
  simp [classShares, classDemands]

/-- A demand of 0 takes nothing. -/
theorem getElem?_shareClass_of_zero {R : Nat} {demands : List Nat} {i : Nat} (h : demands[i]? = some 0) :
    (shareClass R demands)[i]? = some 0 := by
  rcases le_or_gt demands.sum R with fits | short
  · rwa [shareClass_of_le fits]
  · obtain ⟨hi, zero⟩ := List.getElem?_eq_some_iff.1 h
    have hi' : i < (shareClass R demands).length := by simpa using hi
    have bound := (getElem_shareClass_bounds short i hi hi').2.2
    rw [List.getElem?_eq_getElem hi']
    exact congrArg some (by omega)

/-- A bay has nothing from the classes it is not of. -/
theorem getElem?_classShares_of_ne {budget : Nat} {rows : List (Option Nat × Nat)} {i c : Nat} (hi : i < rows.length)
    (hc : rows[i].1 ≠ some c) : (classShares budget rows c)[i]? = some 0 :=
  getElem?_shareClass_of_zero (by simp [classDemands, hi, hc])

/-- A bay's computed grant is its share in its own class (R61). -/
theorem getElem?_apportion {budget : Nat} {rows : List (Option Nat × Nat)} {i cls : Nat} (hi : i < rows.length)
    (hcls : cls ≤ 3) (own : rows[i].1 = some cls) : (apportion budget rows)[i]? = (classShares budget rows cls)[i]? := by
  have others : ∀ c, c ≠ cls → (classShares budget rows c)[i]? = some 0 := fun c hc =>
    getElem?_classShares_of_ne hi (by rw [own]; exact fun e => hc (Option.some.inj e).symm)
  obtain ⟨w, share⟩ : ∃ w, (classShares budget rows cls)[i]? = some w :=
    ⟨_, List.getElem?_eq_getElem (by simpa using hi)⟩
  rw [apportion_eq]
  interval_cases cls <;> simp [List.getElem?_zipWith, share, others]

/-- Settles O16: the classes in turn by `getElem?_apportion`, a class that fits by its definition, and one that is short by
the rule of R63 for each share and the bounds of R62 on the sum of the floors. -/
theorem classesAreServedInTurnAndProRata : Obligations.ClassesAreServedInTurnAndProRata := by
  refine ⟨fun budget rows i cls hi hcls own => getElem?_apportion hi hcls own,
    fun R demands => ⟨fun fits => ⟨shareClass_of_le fits, if_pos fits⟩, fun short => if_neg (not_le.2 short)⟩,
    fun R demands short => ⟨length_shareClass R demands, sum_shareClass_of_lt short, ?_, ?_⟩⟩
  · exact getElem_shareClass_bounds short
  · exact getElem_shareClass_eq_of_passed short

end Sys2Proof.Machine

/-! The ready list and the waiting list (R72 to R78, R81): how a request is taken, the expiry and the cancel of a waiting entry,
and the start of a release with a place on the Bay Line. -/

namespace Sys2Proof.Machine

open Sys2Proof.Safety

/-! ## Requests and their answers -/

/-- A request at the front of the queue, of a length that its kind allows, is taken and executed (R139). -/
theorem State.runRequest_asked {s : State} {kind : Nat} {f : DepotFrame} {rest : List DepotFrame} (h : Asked s kind f rest)
    {lengthOk : Nat → Bool} (hl : lengthOk f.payload.length = true) (body : State → DepotFrame → State) :
    s.runRequest kind lengthOk body = body (tookRequest s rest) f := by
  obtain ⟨hp, hrx, hk⟩ := h
  have taken : s.takeRequest = some (f, tookRequest s rest) := by simp [State.takeRequest, hp, hrx, tookRequest]
  simp [State.runRequest, taken, hk, hl]

theorem State.answer_steady (s : State) (f : DepotFrame) (r : Result) (extra : List Byte) (b : Bay) :
    Steady b s (s.answer f r extra) :=
  (s.answer_quiet f r extra).steady (s.admitUpper_guards _) b

theorem Quiet.tablesKept {s t : State} (h : Quiet s t) : TablesKept s t := TablesKept.of_calm h.calm h.registry

theorem Quiet.serviceKept {s t : State} (h : Quiet s t) : ServiceKept s t :=
  ⟨h.mgu, h.rdc, h.meterArrival, h.meterSilent, h.feederOver, h.overRun, h.pending, h.freeCount⟩

theorem State.room_askRound {s : State} (h : Room s) : Room s.askRound := by
  unfold Room
  rw [s.askRound_dlp]
  exact h

/-! ## The waiting list -/

/-- The RELEASE notice that ends a waiting request names its tag and no bay (R89). -/
theorem releasePayload_waiting (tag : Nat) (o : ReleaseOutcome) :
    releasePayload (some tag) o none none = [1#8] ++ be 2 tag ++ (be 1 o.code ++ [0#8]) ++ be 4 0 := by
  simp [releasePayload, encodeFields, Field.opt, Field.fixed, bitsOf, bayByte, packIdBytes, be]

theorem WaitEntry.expired_iff (e : WaitEntry) (now : Time) : e.expired now = true ↔
    (1 ≤ e.request.limit ∧ e.request.limit ≤ 254) ∧ e.queued + e.request.limit * 60000 ≤ now := by
  simp [WaitEntry.expired]

theorem State.waitDue_iff (s : State) (tag : Nat) : s.waitDue tag = true ↔
    s.inService = true ∧ ∃ e ∈ s.rot.waiting, e.request.tag = tag ∧ e.expired s.now = true := by
  simp [State.waitDue]

theorem State.exec_waitLimitExpiry (s : State) (tag : Nat) : exec (.waitLimitExpiry tag) s = .next (if s.waitDue tag then
    ((s.removeWaiting tag).releaseNotice (some tag) .expired none).askRound else s) := rfl

/-- Settles O34: the entry is due by its limit, its notice has the bytes of R137, and no entry of the tag is due otherwise. -/
theorem waitingEntriesExpire : Obligations.WaitingEntriesExpire := by
  intro s tag
  refine ⟨fun e he htag hin h1 h2 ht => ?_, fun payload room => s.notice_room 0x90 payload room, fun unexpired => ?_⟩
  · have due : s.waitDue tag = true := (s.waitDue_iff tag).2 ⟨hin, e, he, htag, (e.expired_iff _).2 ⟨⟨h1, h2⟩, ht⟩⟩
    rw [s.exec_waitLimitExpiry, if_pos due, State.releaseNotice, Option.bind_none, releasePayload_waiting]
    rfl
  · have notDue : ¬ s.waitDue tag = true := by
      rw [s.waitDue_iff]
      rintro ⟨-, e, he, htag, expired⟩
      obtain ⟨⟨-, limit⟩, late⟩ := (e.expired_iff _).1 expired
      rcases unexpired e he htag with unlimited | early
      · omega
      · exact absurd late (Nat.not_le.2 early)
    rw [s.exec_waitLimitExpiry, if_neg notDue]

/-! ## CANCEL_RELEASE -/

theorem State.exec_cancelRelease_asked {s : State} {f : DepotFrame} {rest : List DepotFrame} (h : Asked s 0x0F f rest)
    (hl : f.payload.length = 2) : exec .cancelRelease s = .next (cancelRelease (tookRequest s rest) f) :=
  congrArg Host.Outcome.next (State.runRequest_asked h (by simpa using hl) cancelRelease)

theorem cancelRelease_of_waiting {s : State} {f : DepotFrame} (h : s.tagWaiting (field f.payload 0 2) = true) :
    cancelRelease s f = (((s.removeWaiting (field f.payload 0 2)).releaseNotice (some (field f.payload 0 2)) .cancelled
      none).askRound).answer f .ok [] := by
  simp [cancelRelease, h]

theorem cancelRelease_of_notWaiting {s : State} {f : DepotFrame} (h : s.tagWaiting (field f.payload 0 2) = false) :
    cancelRelease s f =
      s.answer f (if s.tagReleasing (field f.payload 0 2) = true then .wrongState else .unknownTag) [] := by
  rw [cancelRelease, h, if_neg Bool.false_ne_true]
  split <;> rfl

/-- A cancel of a waiting tag, up to its answer, changes nothing but the waiting list and what `Quiet` leaves open (R78). -/
theorem cancelRelease_quiet {s : State} {f : DepotFrame} (h : s.tagWaiting (field f.payload 0 2) = true) :
    Quiet (s.removeWaiting (field f.payload 0 2)) (cancelRelease s f) := by
  rw [cancelRelease_of_waiting h]
  exact (State.releaseNotice_quiet _ _ _ _).trans ((State.askRound_quiet _).trans (State.answer_quiet _ _ _ _))

/-- Where both frames find room, the notice joins the upper group before the round and the answer after it (R78, R142). -/
theorem cancelRelease_room {s : State} {f : DepotFrame} (h : s.tagWaiting (field f.payload 0 2) = true)
    (room : s.dlp.queued + 2 ≤ 32) : cancelRelease s f = queuedUpper
      ({ s.removeWaiting (field f.payload 0 2) with dlp := { s.dlp with
        upper := s.dlp.upper ++
          [⟨0x90, s.dlp.sendCount, [1#8] ++ be 2 (field f.payload 0 2) ++ [7#8, 0#8] ++ be 4 0⟩]
        sendCount := (s.dlp.sendCount + 1) % 65536 } } : State).askRound (answerFrame f .ok []) := by
  have first : Room (s.removeWaiting (field f.payload 0 2)) := by
    have : s.dlp.queued < 32 := by omega
    exact this
  have second : Room ((s.removeWaiting (field f.payload 0 2)).releaseNotice (some (field f.payload 0 2)) .cancelled
      none) := by
    have added := (s.removeWaiting (field f.payload 0 2)).notice_addsFrames 0x90
      (releasePayload (some (field f.payload 0 2)) .cancelled none none)
    have same : (s.removeWaiting (field f.payload 0 2)).dlp.queued = s.dlp.queued := rfl
    have bound := added (by omega)
    exact lt_of_le_of_lt bound (by omega)
  rw [cancelRelease_of_waiting h, State.answer_room _ _ _ _ (State.room_askRound second), State.releaseNotice, Option.bind_none,
    State.notice_room _ _ _ first, releasePayload_waiting]
  rfl

/-! ## The start of a release with a place on the Bay Line -/

/-- A start with a place on the Bay Line, of any of the four ways: the UNLATCH is queued, and what follows is steady (R81). -/
theorem State.startRelease_asks (s : State) (b : Bay) (how : Start) (hp : s.placeFree = true) :
    ∃ tx, Queued ((s.openRelease b how).setTx tx) (.latchCmd b .unlatch) ∧
      Steady b ((s.openRelease b how).setTx tx) (s.startRelease b how) := by
  obtain ⟨place, -⟩ := s.openRelease_guards_blc b how
  obtain ⟨admitted, queued⟩ := State.requestLatch_of_placeFree (s.openRelease b how) b .unlatch (place.trans hp)
  obtain ⟨tx, asked⟩ := State.requestLatch_eq_setTx (s.openRelease b how) b .unlatch
  rw [asked] at queued
  refine ⟨tx, queued, ?_⟩
  unfold State.startRelease State.startReleaseN
  dsimp only
  rw [if_pos admitted, asked]
  have announced : Steady b ((s.openRelease b how).setTx tx) (if how.announced then
      ((s.openRelease b how).setTx tx).releaseNotice (how.request.map (·.tag)) .started (some b)
      else (s.openRelease b how).setTx tx) := by
    split
    · exact (State.releaseNotice_quiet _ _ _ _).steady (State.releaseNotice_guards _ _ _ _) b
    · exact Steady.refl b _
  split
  · exact announced.trans (State.askRound_steady _ b)
  · exact announced

/-- What a bay whose release starts then is, and what the start leaves alone (R81). -/
theorem State.startRelease_started (s : State) (b : Bay) (how : Start) (hp : s.placeFree = true) :
    withoutFreshness ((s.startRelease b how).bay b) =
      withoutFreshness ((s.opened b how).entered .releasing (some (originOf (s.bay b).state)) (s.bay b)) ∧
    OtherBaysKept b s (s.startRelease b how) ∧ (s.startRelease b how).rot = (s.opened b how).rot ∧
    Queued (s.startRelease b how) (.latchCmd b .unlatch) := by
  obtain ⟨tx, queued, rest⟩ := s.startRelease_asks b how hp
  have opened := (OtherBaysKept.modBay (s.opened b how) b _).trans (s.openRelease_steady b how).others
  exact ⟨rest.own.trans (s.openRelease_own b how), opened.trans rest.others, rest.rot.trans (s.openRelease_rot b how),
    rest.queued_latchCmd queued⟩

/-! ## RELEASE_REQUEST -/

theorem State.exec_releaseRequest_asked {s : State} {f : DepotFrame} {rest : List DepotFrame} (h : Asked s 0x0E f rest)
    (hl : f.payload.length = 2) : exec .releaseRequest s = .next (releaseRequest (tookRequest s rest) f) :=
  congrArg Host.Outcome.next (State.runRequest_asked h (by simpa using hl) releaseRequest)

section Requested

variable {s : State} {f : DepotFrame} {k : Fin 8} (hin : s.inService = true)
  (hk : finOf 8 (field f.payload 0 1) = some k) (hw : s.tagWaiting f.tag = false) (hr : s.tagReleasing f.tag = false)
include hin hk hw hr

theorem releaseRequest_of_readyHead {b : Bay} (hb : s.readyHead k = some b) : releaseRequest s f =
    (s.startRelease b (.answered ⟨f.tag, k, field f.payload 1 1⟩)).answer f .serving
      (bayByte (some b) ++ packIdBytes (s.bay b).packId) := by
  simp [releaseRequest, hin, hk, hw, hr, hb]

theorem releaseRequest_of_noHead (hb : s.readyHead k = none) (hlimit : field f.payload 1 1 ≠ 0)
    (hroom : s.rot.waiting.length < 8) : releaseRequest s f =
    ((s.setWaiting (s.rot.waiting ++ [⟨⟨f.tag, k, field f.payload 1 1⟩, s.now⟩])).askRound).answer f .queued [] := by
  simp [releaseRequest, hin, hk, hw, hr, hb, hlimit, hroom]

/-- A request that the ready head of its type serves (R77, R81). -/
theorem releaseRequest_serves {b : Bay} (hb : s.readyHead k = some b) (hs : (s.bay b).state = .ready)
    (hp : s.placeFree = true) :
    withoutFreshness ((releaseRequest s f).bay b) =
      withoutFreshness ((s.opened b (.answered ⟨f.tag, k, field f.payload 1 1⟩)).entered .releasing (some .ready) (s.bay b)) ∧
    (releaseRequest s f).rot = (s.opened b (.answered ⟨f.tag, k, field f.payload 1 1⟩)).rot ∧
    Queued (releaseRequest s f) (.latchCmd b .unlatch) ∧ OtherBaysKept b s (releaseRequest s f) ∧
    TablesKept s (releaseRequest s f) := by
  obtain ⟨own, others, rot, queued⟩ := s.startRelease_started b (.answered ⟨f.tag, k, field f.payload 1 1⟩) hp
  rw [hs] at own
  rw [releaseRequest_of_readyHead hin hk hw hr hb]
  have answered := State.answer_steady (s.startRelease b (.answered ⟨f.tag, k, field f.payload 1 1⟩)) f .serving
    (bayByte (some b) ++ packIdBytes (s.bay b).packId) b
  exact ⟨answered.own.trans own, answered.rot.trans rot, answered.queued_latchCmd queued, others.trans answered.others,
    TablesKept.of_calm ((s.startRelease_calm b _).trans (State.answer_quiet _ _ _ _).calm)
      (answered.registry.trans (s.startRelease_registry b _))⟩

/-- A request without a ready bay of its type that joins the back of the waiting list (R77). -/
theorem releaseRequest_queues (hb : s.readyHead k = none) (hlimit : field f.payload 1 1 ≠ 0)
    (hroom : s.rot.waiting.length < 8) :
    Quiet (s.setWaiting (s.rot.waiting ++ [⟨⟨f.tag, k, field f.payload 1 1⟩, s.now⟩])) (releaseRequest s f) := by
  rw [releaseRequest_of_noHead hin hk hw hr hb hlimit hroom]
  exact (State.askRound_quiet _).trans (State.answer_quiet _ _ _ _)

end Requested

/-- Settles O31: a request served by the start of a release (R81) or queued (R77), and a cancel by who holds the tag (R78). -/
theorem releaseRequestServesOrQueues : Obligations.ReleaseRequestServesOrQueues := by
  refine ⟨fun s f rest k asked hl hin hk hw hr => ⟨fun b hb hs hp => ?_, fun hb hlimit hroom => ?_⟩,
    fun s f rest asked hl => ⟨fun waiting => ?_, fun notWaiting room => ?_⟩⟩
  · obtain ⟨own, rot, queued, others, tables⟩ :=
      releaseRequest_serves (s := tookRequest s rest) (f := f) hin hk hw hr hb hs hp
    refine ⟨_, State.exec_releaseRequest_asked asked hl, state_of_withoutFreshness own, origin_of_withoutFreshness own,
      (packId_of_withoutFreshness own :), (session_of_withoutFreshness own :), ?_, (congrArg Rot.ready rot :),
      (congrArg Rot.waiting rot :), queued, others, tables⟩
    have state : ((tookRequest s rest).bay b).state = .ready := hs
    rw [State.release, rot]
    simp only [State.opened, Table.get_set_self, state]
    rfl
  · have quiet := releaseRequest_queues (s := tookRequest s rest) (f := f) hin hk hw hr hb hlimit hroom
    exact ⟨_, State.exec_releaseRequest_asked asked hl, quiet.rot, quiet.bays, quiet.tablesKept, quiet.serviceKept⟩
  · have quiet := cancelRelease_quiet (s := tookRequest s rest) (f := f) waiting
    refine ⟨_, State.exec_cancelRelease_asked asked hl, quiet.rot, quiet.bays, quiet.tablesKept, quiet.serviceKept,
      fun room => ?_⟩
    rw [quiet.rot]
    exact cancelRelease_room waiting room
  · rw [State.exec_cancelRelease_asked asked hl, cancelRelease_of_notWaiting (s := tookRequest s rest) notWaiting,
      State.answer_room (tookRequest s rest) _ _ _ room]
    rfl

end Sys2Proof.Machine

/-! What the commands leave of the shift call (R90). -/

namespace Sys2Proof.Machine

open Sys2Proof.Safety

/-- The shift call is as it was. `Calm` says so of the events of a bay; the requests, the two links and the meter change fields
that `Calm` holds. -/
structure CallKept (s t : State) : Prop where
  shiftCall : t.rot.shiftCall = s.rot.shiftCall

theorem CallKept.refl (s : State) : CallKept s s := ⟨rfl⟩

theorem CallKept.trans {s t u : State} (h : CallKept s t) (k : CallKept t u) : CallKept s u :=
  ⟨k.shiftCall.trans h.shiftCall⟩

theorem Calm.callKept {s t : State} (h : Calm s t) : CallKept s t := ⟨h.shiftCall⟩

theorem Quiet.callKept {s t : State} (h : Quiet s t) : CallKept s t := h.calm.callKept

theorem State.answer_callKept (s : State) (f : DepotFrame) (r : Result) (extra : List Byte) :
    CallKept s (s.answer f r extra) := (s.answer_quiet f r extra).callKept

/-- An event that acts only where it is due. -/
theorem CallKept.ite {s t : State} {due : Prop} [Decidable due] (h : CallKept s t) :
    CallKept s (if due then t else s) := by
  split
  · exact h
  · exact CallKept.refl s

/-- An answer after a part of a request that leaves the shift call. -/
theorem CallKept.answer {s t : State} (h : CallKept s t) (f : DepotFrame) (r : Result) (extra : List Byte) :
    CallKept s (t.answer f r extra) := h.trans (t.answer_callKept f r extra)

/-! ## Requests: reads and writes -/

theorem readStatus_callKept (s : State) (f : DepotFrame) : CallKept s (readStatus s f) := s.answer_callKept _ _ _

theorem readBay_callKept (s : State) (f : DepotFrame) : CallKept s (readBay s f) := by
  unfold readBay
  dsimp only
  split
  · exact s.answer_callKept _ _ _
  · split <;> exact s.answer_callKept _ _ _

theorem readTable_callKept (s : State) (f : DepotFrame) : CallKept s (readTable s f) := by
  unfold readTable
  dsimp only
  split
  · exact s.answer_callKept _ _ _
  · split <;> exact s.answer_callKept _ _ _

theorem State.setProfile_callKept (s : State) (i : Fin 8) (p : Profile) : CallKept s (s.setProfile i p) := by
  have stored : CallKept s { s with profiles := s.profiles.set i p } := ⟨rfl⟩
  unfold State.setProfile
  dsimp only
  split
  · exact stored.trans (State.reevaluate_calm _).callKept
  · exact stored

theorem writeProfileHead_callKept (s : State) (f : DepotFrame) : CallKept s (writeProfileHead s f) := by
  have judged : ∀ (result : Result) (i : Fin 8) (p : Profile) (extra : List Byte),
      CallKept s (if result = .ok then (s.setProfile i p).answer f .ok extra else s.answer f result []) := by
    intro result i p extra
    split
    · exact (s.setProfile_callKept i p).answer _ _ _
    · exact s.answer_callKept _ _ _
  unfold writeProfileHead
  split
  · exact s.answer_callKept _ _ _
  · exact judged _ _ _ _

theorem writeProfileStep_callKept (s : State) (f : DepotFrame) : CallKept s (writeProfileStep s f) := by
  unfold writeProfileStep
  dsimp only
  split
  · split
    · exact (s.setProfile_callKept _ _).answer _ _ _
    · exact s.answer_callKept _ _ _
  · exact s.answer_callKept _ _ _

theorem State.setEntry_callKept (s : State) (i : Fin 128) (e : Option RegEntry) : CallKept s (s.setEntry i e) :=
  CallKept.trans (t := { s with registry := s.registry.set i e }) ⟨rfl⟩ (State.reevaluate_calm _).callKept

theorem writeRegistry_callKept (s : State) (f : DepotFrame) : CallKept s (writeRegistry s f) := by
  unfold writeRegistry
  split
  · exact s.answer_callKept _ _ _
  · split
    · exact s.answer_callKept _ _ _
    · split
      · exact (s.setEntry_callKept _ _).answer _ _ _
      · exact s.answer_callKept _ _ _

theorem State.configure_callKept (s : State) (b : Bay) (c : BayConfig) : CallKept s (s.configure b c) := by
  have stored : CallKept s { s with config := s.config.set b c } := ⟨rfl⟩
  have refreshed : ∀ t, CallKept s (State.setRefresh { s with config := s.config.set b c } b t) := fun _ => ⟨rfl⟩
  unfold State.configure
  dsimp only
  split
  · exact (refreshed _).trans (State.enterState_calm _ b _).callKept
  · exact (refreshed _).trans ((State.clearDecoder_calm _ b).trans (State.enterState_calm _ b _)).callKept
  · split
    · exact stored.trans (State.evalSetpoint_quiet _ b).callKept
    · exact stored
  · exact stored

theorem writeBayConfig_callKept (s : State) (f : DepotFrame) : CallKept s (writeBayConfig s f) := by
  unfold writeBayConfig
  split
  · dsimp only
    split
    · exact (s.configure_callKept _ _).answer _ _ _
    · exact s.answer_callKept _ _ _
  · exact s.answer_callKept _ _ _

theorem writeRelayMap_callKept (s : State) (f : DepotFrame) : CallKept s (writeRelayMap s f) := by
  have stored : ∀ m, CallKept s (s.setMap m) := fun _ => ⟨rfl⟩
  unfold writeRelayMap
  split
  · exact s.answer_callKept _ _ _
  · exact (stored _).answer _ _ _

theorem writeAlarmMap_callKept (s : State) (f : DepotFrame) : CallKept s (writeAlarmMap s f) := by
  have stored : ∀ m, CallKept s (State.recomputeTrip { s with cmn := { s.cmn with map := m } }) := fun _ => ⟨rfl⟩
  unfold writeAlarmMap
  dsimp only
  split
  · exact s.answer_callKept _ _ _
  · exact (stored _).answer _ _ _

theorem setBudget_callKept (s : State) (f : DepotFrame) : CallKept s (setBudget s f) := by
  have stored : CallKept s (s.modFal fun x => { x with budget := budgetOfPayload f.payload }).recomputeBudget := ⟨rfl⟩
  exact (stored.trans (State.askRound_quiet _).callKept).answer _ _ _

/-! ## Requests: service, releases, conditions -/

theorem startServiceRequest_callKept (s : State) (f : DepotFrame) : CallKept s (startServiceRequest s f) := by
  have started : CallKept s (s.setService .inService).startIdentifying := ⟨rfl⟩
  unfold startServiceRequest
  dsimp only
  split
  · exact (started.trans ((State.evalAllSetpoints_quiet _).trans (State.recomputeBudget_quiet _)).callKept).answer _ _ _
  · exact s.answer_callKept _ _ _

theorem State.cancelAll_calm (s : State) : Calm s s.cancelAll :=
  Calm.foldl (fun t _ => (t.setWaiting_calm _).trans (State.releaseNotice_quiet _ _ _ _).calm) s.rot.waiting s

theorem State.stopBays_calm (s : State) : Calm s s.stopBays := by
  have moved : ∀ (t : State) (b : Bay),
      Calm t (if (t.bay b).state.stopsToIdentifying then t.enterState b .identifying else t) := by
    intro t b
    split
    · exact t.enterState_calm b _
    · exact Calm.refl t
  have folded := Calm.foldl moved allBays s
  unfold State.stopBays
  exact folded.trans (State.modBays_calm _ _)

theorem State.stopped_callKept (s : State) : CallKept s s.stopped := by
  have loading : CallKept s.cancelAll (s.cancelAll.setService .loading) := ⟨rfl⟩
  have moved := (s.cancelAll_calm.callKept.trans loading).trans (State.stopBays_calm _).callKept
  have resting := (moved.trans (State.clearGrants_quiet _).callKept).trans (State.evalAllSetpoints_quiet _).callKept
  exact resting.trans (State.requestSingle_quiet _ .stop).callKept

theorem stopServiceRequest_callKept (s : State) (f : DepotFrame) : CallKept s (stopServiceRequest s f) := by
  unfold stopServiceRequest
  split
  · exact s.answer_callKept _ _ _
  · exact s.stopped_callKept.answer _ _ _

/-- A restart keeps the shift call (R163). -/
theorem State.restarted_callKept (s : State) : CallKept s s.restarted := ⟨rfl⟩

theorem restartRequest_callKept (s : State) (f : DepotFrame) : CallKept s (restartRequest s f) := by
  have pending : CallKept s { s with mgu := { s.mgu with restartPending := true } } := ⟨rfl⟩
  have answered := pending.answer f .ok []
  unfold restartRequest
  dsimp only
  split
  · exact answered
  · exact answered.trans (State.restarted_callKept _)

theorem releaseRequest_callKept (s : State) (f : DepotFrame) : CallKept s (releaseRequest s f) := by
  have refused := s.answer_callKept f
  unfold releaseRequest
  dsimp only
  split
  · exact refused _ _
  · split
    · exact refused _ _
    · split
      · exact refused _ _
      · split
        · exact (s.startRelease_calm _ _).callKept.answer _ _ _
        · split
          · exact refused _ _
          · split
            · exact refused _ _
            · exact ((s.setWaiting_calm _).trans (State.askRound_quiet _).calm).callKept.answer _ _ _

theorem cancelRelease_callKept (s : State) (f : DepotFrame) : CallKept s (cancelRelease s f) := by
  cases h : s.tagWaiting (field f.payload 0 2) with
  | true => exact (s.setWaiting_calm _).callKept.trans (cancelRelease_quiet h).callKept
  | false =>
    rw [cancelRelease_of_notWaiting h]
    exact s.answer_callKept _ _ _

theorem releaseBay_callKept (s : State) (f : DepotFrame) : CallKept s (releaseBay s f) := by
  unfold releaseBay
  split
  · exact s.answer_callKept _ _ _
  · split
    · exact s.answer_callKept _ _ _
    · split
      · exact (s.startRelease_calm _ _).callKept.answer _ _ _
      · exact s.answer_callKept _ _ _

theorem State.resetBay_callKept (s : State) (b : Bay) : CallKept s (s.resetBay b) := by
  have cleared : CallKept (s.clearDecoder b) ((s.clearDecoder b).clearInactive b) := ⟨rfl⟩
  exact ((s.clearDecoder_calm b).callKept.trans cleared).trans
    ((State.modBay_calm _ b _).trans (State.enterState_calm _ b _)).callKept

theorem bayResetRequest_callKept (s : State) (f : DepotFrame) : CallKept s (bayResetRequest s f) := by
  unfold bayResetRequest
  split
  · exact s.answer_callKept _ _ _
  · split
    · exact s.answer_callKept _ _ _
    · exact (s.resetBay_callKept _).answer _ _ _

theorem ackConditions_callKept (s : State) (f : DepotFrame) : CallKept s (ackConditions s f) := by
  have depot : ∀ set, CallKept s (s.ackDepot set) := fun _ => ⟨rfl⟩
  have bay : ∀ b set, CallKept s (s.ackBay b set) := fun _ _ => ⟨rfl⟩
  unfold ackConditions
  dsimp only
  split
  · split
    · exact s.answer_callKept _ _ _
    · exact (depot _).answer _ _ _
  · split
    · exact s.answer_callKept _ _ _
    · split
      · exact s.answer_callKept _ _ _
      · exact (bay _ _).answer _ _ _

theorem State.leaveHold_callKept (s : State) : CallKept s s.leaveHold := by
  have left : CallKept s { s with cmn := { s.cmn.clearOrigin with hold := false } } := ⟨rfl⟩
  exact left.trans ((State.recomputeBudget_quiet _).trans ((State.evalAllSetpoints_quiet _).trans
    ((State.askRound_quiet _).trans (State.notice_quiet _ _ _)))).callKept

theorem resumeRequest_callKept (s : State) (f : DepotFrame) : CallKept s (resumeRequest s f) := by
  unfold resumeRequest
  split
  · exact s.answer_callKept _ _ _
  · exact s.leaveHold_callKept.answer _ _ _

theorem serviceFrame_callKept (s : State) (f : DepotFrame) : CallKept s (serviceFrame s f) := by
  have refused := s.answer_callKept f
  unfold serviceFrame
  split
  · exact refused _ _
  · split
    · exact refused _ _
    · split
      · exact refused _ _
      · dsimp only
        split
        · exact (s.requestService_quiet _ _).callKept.answer _ _ _
        · exact refused _ _

/-- Taking the oldest request leaves the shift call (R139). -/
theorem State.takeRequest_callKept {s t : State} {f : DepotFrame} (h : s.takeRequest = some (f, t)) : CallKept s t := by
  unfold State.takeRequest at h
  split at h
  · cases h
  · split at h
    · cases h
    · cases h; exact ⟨rfl⟩

/-- A request leaves the shift call where its execution does: it is taken, and answered BAD_FRAME or executed (R139). -/
theorem State.runRequest_callKept {body : State → DepotFrame → State} (h : ∀ t f, CallKept t (body t f)) (s : State)
    (kind : Nat) (lengthOk : Nat → Bool) : CallKept s (s.runRequest kind lengthOk body) := by
  unfold State.runRequest
  split
  · exact CallKept.refl s
  · next taken =>
    split
    · split
      · exact (State.takeRequest_callKept taken).trans (h _ _)
      · exact (State.takeRequest_callKept taken).answer _ _ _
    · exact CallKept.refl s

theorem execUnknownKindFrame_callKept {s t : State} (h : execUnknownKindFrame s = .next t) : CallKept s t := by
  cases h
  split
  · exact CallKept.refl s
  · next taken =>
    split
    · exact CallKept.refl s
    · exact (State.takeRequest_callKept taken).trans (State.admitUpper_quiet _ _).callKept

/-! ## Dock reports -/

/-- Taking the oldest Bay Line frame leaves the shift call (R104). -/
theorem State.takeLine_callKept {s t : State} {f : LineFrame} (h : s.takeLine = some (f, t)) : CallKept s t := by
  unfold State.takeLine at h
  split at h
  · cases h
  · cases h; exact ⟨rfl⟩

theorem State.modFal_callKept (s : State) (g : Fal → Fal) : CallKept s (s.modFal g) := ⟨rfl⟩

theorem State.endMeterSilent_callKept (s : State) : CallKept s s.endMeterSilent := by
  unfold State.endMeterSilent
  split
  · exact (s.modFal_callKept _).trans ((State.endCause_quiet _ _).trans ((State.recomputeBudget_quiet _).trans
      (State.askRound_quiet _))).callKept
  · exact CallKept.refl s

theorem State.feederTest_callKept (s : State) (watts : Nat) : CallKept s (s.feederTest watts) := by
  unfold State.feederTest
  split
  · dsimp only
    split
    · exact ((s.modFal_callKept _).trans (State.modFal_callKept _ _)).trans (State.raise_quiet _ _ _).callKept
    · exact s.modFal_callKept _
  · split
    · exact s.modFal_callKept _
    · dsimp only
      split
      · exact (s.modFal_callKept _).trans (State.endCause_quiet _ _).callKept
      · exact s.modFal_callKept _

theorem State.takeMeter_callKept (s : State) (f : LineFrame) : CallKept s (s.takeMeter f) := by
  have stored : ∀ (t : State) m, CallKept t { t with rdc := { t.rdc with lastMeter := m } } := fun _ _ => ⟨rfl⟩
  unfold State.takeMeter
  split
  · exact (s.raise_quiet _ _).callKept
  · exact ((s.modFal_callKept _).trans ((State.endMeterSilent_callKept _).trans (State.feederTest_callKept _ _))).trans
      ((stored _ _).trans (State.relayMeter_calm _ _).callKept)

/-- What the step that takes a frame does with it (R105). -/
def State.handleFrame (s : State) (use : FrameUse) (f : LineFrame) : State :=
  match use with
  | .segment0 b => s.takeSegment0 b f
  | .group b => s.takeGroup b f
  | .stage b => s.takeStage b f
  | .latch b => s.takeLatch b f
  | .meter => s.takeMeter f
  | .service b => s.takeService b f
  | .ignored => s

theorem State.handleFrame_callKept (s : State) (use : FrameUse) (f : LineFrame) : CallKept s (s.handleFrame use f) := by
  cases use with
  | segment0 b => exact (s.takeSegment0_calm b f).callKept
  | group b => exact (s.takeGroup_calm b f).callKept
  | stage b => exact (s.takeStage_calm b f).callKept
  | latch b => exact (s.takeLatch_calm b f).callKept
  | meter => exact s.takeMeter_callKept f
  | service b => exact (s.takeService_calm b f).callKept
  | ignored => exact CallKept.refl s

/-- A step of the Report Decoder takes the oldest frame and handles it by its use, or does nothing (R104, R105). -/
theorem exec_command_cases {s t : State} (use : FrameUse) (h : exec use.command s = .next t) :
    t = s ∨ ∃ f rest, s.takeLine = some (f, rest) ∧ t = rest.handleFrame (s.frameUse f) f := by
  cases use with
  | segment0 | group | stage | latch | meter | service | ignored =>
    cases h
    split
    · exact .inl rfl
    · next taken =>
      split
      · next routed => exact .inr ⟨_, _, taken, by rw [routed]; rfl⟩
      · exact .inl rfl

theorem exec_command_callKept {s t : State} (use : FrameUse) (h : exec use.command s = .next t) : CallKept s t := by
  obtain rfl | ⟨f, rest, taken, rfl⟩ := exec_command_cases use h
  · exact CallKept.refl t
  · exact (State.takeLine_callKept taken).trans (State.handleFrame_callKept _ _ _)

/-! ## The Bay Line -/

theorem State.modBlc_callKept (s : State) (g : Blc → Blc) : CallKept s (s.modBlc g) := ⟨rfl⟩

theorem State.refreshSent_callKept (s : State) (w : TxWhat) : CallKept s (s.refreshSent w) := by
  cases w with
  | drive b =>
    simp only [State.refreshSent]
    split
    · exact s.modBlc_callKept _
    · exact CallKept.refl s
  | stop => exact CallKept.refl s
  | latchCmd b c => exact CallKept.refl s
  | service b p => exact CallKept.refl s

theorem State.arbitrationLost_callKept (s : State) (e : TxEntry) : CallKept s (s.arbitrationLost e) := by
  unfold State.arbitrationLost
  dsimp only
  split
  · exact (s.modBlc_callKept _).trans (State.latchDiscarded_calm _ _).callKept
  · exact s.modBlc_callKept _

theorem State.startRecovery_callKept (s : State) : CallKept s s.startRecovery := s.modBlc_callKept _

theorem State.transmitError_callKept (s : State) : CallKept s s.transmitError := by
  unfold State.transmitError
  dsimp only
  split
  · exact (s.modBlc_callKept _).trans (State.startRecovery_callKept _)
  · exact s.modBlc_callKept _

theorem State.suspendDeadlines_callKept (s : State) : CallKept s s.suspendDeadlines := ⟨rfl⟩

theorem State.endStuck_callKept (s : State) : CallKept s s.endStuck := by
  have resumed : ∀ t : State, CallKept t t.resumeDeadlines := fun _ => ⟨rfl⟩
  exact (s.endCause_quiet _).callKept.trans (resumed _)

theorem State.attemptFailed_callKept (s : State) : CallKept s s.attemptFailed := by
  unfold State.attemptFailed
  dsimp only
  refine CallKept.trans ?_ (State.modBlc_callKept _ _)
  split
  · exact CallKept.refl s
  · exact (s.raise_quiet _ _).callKept.trans (State.suspendDeadlines_callKept _)

theorem State.attemptSucceeded_callKept (s : State) : CallKept s s.attemptSucceeded := by
  unfold State.attemptSucceeded
  refine CallKept.trans ?_ (State.modBlc_callKept _ _)
  split
  · exact s.endStuck_callKept
  · exact CallKept.refl s

theorem State.pulseRead_callKept (s : State) (r : Recovery) (dominant : Bool) : CallKept s (s.pulseRead r dominant) := by
  unfold State.pulseRead
  split
  · exact s.attemptSucceeded_callKept
  · split
    · exact s.modBlc_callKept _
    · exact s.attemptFailed_callKept

theorem State.hearFrame_callKept (s : State) (chars : List Byte) (fault : Bool) :
    CallKept s (s.hearFrame chars fault) := by
  unfold State.hearFrame State.takeFrame
  split
  · split
    · exact CallKept.refl s
    · split
      · exact (s.raise_quiet _ _).callKept
      · exact s.modBlc_callKept _
  · exact (s.raise_quiet _ _).callKept

theorem State.frameEnd_callKept (s : State) (chars : List Byte) (fault : Bool) : CallKept s (s.frameEnd chars fault) := by
  have heard := s.hearFrame_callKept chars fault
  have idle : CallKept s ((s.hearFrame chars fault).setLine .idle) := heard.trans (State.modBlc_callKept _ _)
  unfold State.frameEnd
  split
  · exact CallKept.refl s
  · exact idle
  · exact idle
  · split
    · exact CallKept.refl s
    · exact idle
  · dsimp only
    split
    · exact heard.trans ((State.endStuck_callKept _).trans (State.modBlc_callKept _ _))
    · exact heard

theorem execBayLineTxStart_callKept {s t : State} (h : execBayLineTxStart s = .next t) : CallKept s t := by
  cases h
  refine CallKept.ite ?_
  split
  · exact s.modBlc_callKept _
  · exact CallKept.refl s

theorem execBayLineTxComplete_callKept {s t : State} (h : execBayLineTxComplete s = .next t) : CallKept s t := by
  cases h
  split
  · exact CallKept.refl s
  · exact (s.modBlc_callKept _).trans (State.refreshSent_callKept _ _)

theorem execArbitrationLost_callKept {s t : State} (h : execArbitrationLost s = .next t) : CallKept s t := by
  cases h
  split
  · exact CallKept.refl s
  · exact s.arbitrationLost_callKept _

theorem execTransmitError_callKept {s t : State} (h : execTransmitError s = .next t) : CallKept s t := by
  cases h
  split
  · exact CallKept.refl s
  · exact s.transmitError_callKept

theorem execLineIdleFound_callKept {s t : State} (h : execLineIdleFound s = .next t) : CallKept s t := by
  cases h
  split
  · exact s.modBlc_callKept _
  · split
    · exact CallKept.refl s
    · exact s.modBlc_callKept _
  all_goals exact CallKept.refl s

theorem execLrsPulseReading_callKept {s t : State} {dominant : Bool} (h : execLrsPulseReading dominant s = .next t) :
    CallKept s t := by
  cases h
  split
  · exact CallKept.ite (s.pulseRead_callKept _ _)
  · exact CallKept.refl s

/-! ## The Depot Link -/

theorem State.setReceiver_callKept (s : State) (r : Receiver) : CallKept s (s.setReceiver r) := ⟨rfl⟩

theorem State.malformed_callKept (s : State) (r : Receiver) : CallKept s (s.malformed r) :=
  (s.setReceiver_callKept r).trans (State.raise_quiet _ _ _).callKept

theorem State.checkFrame_callKept (s : State) (chars : List Byte) : CallKept s (s.checkFrame chars) := by
  unfold State.checkFrame
  split
  · exact (s.raise_quiet _ _).callKept
  · split
    · exact ⟨rfl⟩
    · exact (s.raise_quiet _ _).callKept

theorem State.frameSent_callKept (s : State) (g : Group) : CallKept s (s.frameSent g) := by
  unfold State.frameSent
  split
  · exact s.restarted_callKept
  · exact ⟨rfl⟩

theorem execDepotFrameComplete_callKept {s t : State} {char : Byte} (h : execDepotFrameComplete char s = .next t) :
    CallKept s t := by
  cases h
  split
  · exact (s.setReceiver_callKept _).trans (State.checkFrame_callKept _ _)
  all_goals exact CallKept.refl s

theorem execDepotRxCharacter_callKept {s t : State} {char : Byte} (h : execDepotRxCharacter char s = .next t) :
    CallKept s t := by
  cases h
  split
  · exact s.setReceiver_callKept _
  all_goals exact CallKept.refl s

theorem execDepotRxBadLength_callKept {s t : State} {char : Byte} (h : execDepotRxBadLength char s = .next t) :
    CallKept s t := by
  cases h
  split
  · exact s.malformed_callKept _
  all_goals exact CallKept.refl s

theorem execDepotRxFramingFault_callKept {s t : State} (h : execDepotRxFramingFault s = .next t) : CallKept s t := by
  cases h
  split
  · exact CallKept.refl s
  all_goals exact s.malformed_callKept _

theorem execDepotLinkIdle_callKept {s t : State} (h : execDepotLinkIdle s = .next t) : CallKept s t := by
  cases h
  split
  · exact s.malformed_callKept _
  · exact s.setReceiver_callKept _
  · exact CallKept.refl s

theorem execDepotTxFrameDone_callKept {s t : State} (h : execDepotTxFrameDone s = .next t) : CallKept s t := by
  cases h
  split
  · exact CallKept.refl s
  · exact s.frameSent_callKept _

/-! ## Deadlines, the meter and the stop input -/

theorem State.beginMeterSilent_callKept (s : State) : CallKept s s.beginMeterSilent :=
  (s.modFal_callKept _).trans ((State.raise_quiet _ _ _).trans ((State.recomputeBudget_quiet _).trans
    (State.askRound_quiet _))).callKept

/-- A deadline that raises a condition of a bay and moves it (R6, R13, R21). -/
theorem State.raise_enterState_callKept (s : State) (id : CondId) (present : Bool) (b : Bay) (n : BayState) :
    CallKept s ((s.raise id present).enterState b n) :=
  (s.raise_quiet id present).callKept.trans (State.enterState_calm _ b n).callKept

theorem State.advanceStepTimes_calm (s : State) : Calm s s.advanceStepTimes := s.modBays_calm _

theorem execUnlatchDeadline_callKept {s t : State} {b : Bay} (h : execUnlatchDeadline b s = .next t) : CallKept s t := by
  cases h
  split
  · exact (s.latchFailure_calm b _).callKept
  · exact CallKept.refl s

theorem execPickupDeadline_callKept {s t : State} {b : Bay} (h : execPickupDeadline b s = .next t) : CallKept s t := by
  cases h
  split
  · exact (s.pickupEnded_calm b _).callKept
  · exact CallKept.refl s

theorem execRelatchDeadline_callKept {s t : State} {b : Bay} (h : execRelatchDeadline b s = .next t) : CallKept s t := by
  cases h
  split
  · exact (s.relatchFailure_calm b).callKept
  · exact CallKept.refl s

theorem execWaitLimitExpiry_callKept {s t : State} {tag : Nat} (h : execWaitLimitExpiry tag s = .next t) :
    CallKept s t := by
  cases h
  exact CallKept.ite ((s.setWaiting_calm _).trans
    ((State.releaseNotice_quiet _ _ _ _).trans (State.askRound_quiet _)).calm).callKept

theorem execXstopAsserted_callKept {s t : State} (h : execXstopAsserted s = .next t) : CallKept s t := by
  have taken : CallKept s (s.setXstop true) := ⟨rfl⟩
  cases h
  split
  · exact CallKept.refl s
  · exact taken.trans (State.raise_quiet _ _ _).callKept

theorem execXstopReleased_callKept {s t : State} (h : execXstopReleased s = .next t) : CallKept s t := by
  have taken : CallKept s (s.setXstop false) := ⟨rfl⟩
  cases h
  exact CallKept.ite (taken.trans (State.endCause_quiet _ _).callKept)

/-! ## Every command but two -/

/-- No command but WRITE_SHIFT_CALL and a power-on reset changes the shift call (R90). -/
theorem exec_callKept {c : Instr} {s t : State} (hw : c ≠ .writeShiftCall) (hp : c ≠ .powerOnReset)
    (h : exec c s = .next t) : CallKept s t := by
  cases c with
  | powerOnReset => exact absurd rfl hp
  | writeShiftCall => exact absurd rfl hw
  | readStatus => cases h; exact State.runRequest_callKept readStatus_callKept s _ _
  | readBay => cases h; exact State.runRequest_callKept readBay_callKept s _ _
  | readTable => cases h; exact State.runRequest_callKept readTable_callKept s _ _
  | writeProfileHead => cases h; exact State.runRequest_callKept writeProfileHead_callKept s _ _
  | writeProfileStep => cases h; exact State.runRequest_callKept writeProfileStep_callKept s _ _
  | writeRegistry => cases h; exact State.runRequest_callKept writeRegistry_callKept s _ _
  | writeBayConfig => cases h; exact State.runRequest_callKept writeBayConfig_callKept s _ _
  | writeRelayMap => cases h; exact State.runRequest_callKept writeRelayMap_callKept s _ _
  | writeAlarmMap => cases h; exact State.runRequest_callKept writeAlarmMap_callKept s _ _
  | setBudget => cases h; exact State.runRequest_callKept setBudget_callKept s _ _
  | startService => cases h; exact State.runRequest_callKept startServiceRequest_callKept s _ _
  | stopService => cases h; exact State.runRequest_callKept stopServiceRequest_callKept s _ _
  | releaseRequest => cases h; exact State.runRequest_callKept releaseRequest_callKept s _ _
  | cancelRelease => cases h; exact State.runRequest_callKept cancelRelease_callKept s _ _
  | releaseBay => cases h; exact State.runRequest_callKept releaseBay_callKept s _ _
  | bayReset => cases h; exact State.runRequest_callKept bayResetRequest_callKept s _ _
  | ackConditions => cases h; exact State.runRequest_callKept ackConditions_callKept s _ _
  | resume => cases h; exact State.runRequest_callKept resumeRequest_callKept s _ _
  | restart => cases h; exact State.runRequest_callKept restartRequest_callKept s _ _
  | serviceFrame => cases h; exact State.runRequest_callKept serviceFrame_callKept s _ _
  | unknownKindFrame => exact execUnknownKindFrame_callKept h
  | depotFrameComplete char => exact execDepotFrameComplete_callKept h
  | depotLinkIdle => exact execDepotLinkIdle_callKept h
  | depotRxFramingFault => exact execDepotRxFramingFault_callKept h
  | depotRxBadLength char => exact execDepotRxBadLength_callKept h
  | depotTxFrameStart => cases h; exact CallKept.ite ⟨rfl⟩
  | depotTxFrameDone => exact execDepotTxFrameDone_callKept h
  | bayLineTxStart => exact execBayLineTxStart_callKept h
  | bayLineTxComplete => exact execBayLineTxComplete_callKept h
  | arbitrationLost => exact execArbitrationLost_callKept h
  | transmitError => exact execTransmitError_callKept h
  | bayLineFrameEnd chars fault => cases h; exact s.frameEnd_callKept chars fault
  | lineIdleFound => exact execLineIdleFound_callKept h
  | lineDominantTimeout => cases h; exact CallKept.ite s.startRecovery_callKept
  | lrsPulseReading dominant => exact execLrsPulseReading_callKept h
  | nextRecoveryAttempt => cases h; exact CallKept.ite s.startRecovery_callKept
  | refreshDue b =>
    cases h
    exact CallKept.ite ((s.modBlc_callKept _).trans (State.requestSingle_quiet _ _).callKept)
  | segment0 => exact exec_command_callKept (.segment0 0) h
  | groupSegment => exact exec_command_callKept (.group 0) h
  | stageReport => exact exec_command_callKept (.stage 0) h
  | latchReport => exact exec_command_callKept (.latch 0) h
  | meterReport => exact exec_command_callKept .meter h
  | dockServiceFrame => exact exec_command_callKept (.service 0) h
  | ignoredFrame => exact exec_command_callKept .ignored h
  | allocationTick => cases h; exact s.askRound_quiet.callKept
  | stepTimeAdvance => cases h; exact s.advanceStepTimes_calm.callKept
  | stepTimeout b => cases h; exact CallKept.ite (s.timeoutStep_calm b).callKept
  | identifyingDeadline b => cases h; exact CallKept.ite (s.raise_enterState_callKept _ _ _ _)
  | checkDeadline b => cases h; exact CallKept.ite (s.raise_enterState_callKept _ _ _ _)
  | longCoolTimeout b =>
    cases h
    exact CallKept.ite ((s.modBay_calm b _).trans (State.raise_quiet _ _ _).calm).callKept
  | noDataSet b => cases h; exact CallKept.ite (s.setNoData_calm b).callKept
  | noDataEscalation b => cases h; exact CallKept.ite (s.raise_enterState_callKept _ _ _ _)
  | unlatchDeadline b => exact execUnlatchDeadline_callKept h
  | pickupDeadline b => exact execPickupDeadline_callKept h
  | relatchDeadline b => exact execRelatchDeadline_callKept h
  | waitLimitExpiry tag => exact execWaitLimitExpiry_callKept h
  | meterSilentBegin => cases h; exact CallKept.ite s.beginMeterSilent_callKept
  | xstopAsserted => exact execXstopAsserted_callKept h
  | xstopReleased => exact execXstopReleased_callKept h
  | startBitRecognised => cases h; exact CallKept.ite (s.modBlc_callKept _)
  | depotRxCharacter char => exact execDepotRxCharacter_callKept h

/-! ## WRITE_SHIFT_CALL -/

/-- The shift call that a WRITE_SHIFT_CALL carries, each count clamped (R90). -/
def callOfPayload (p : List Byte) : Table 8 Nat := Table.ofFn fun k => min 16 (field p k.val 1)

/-- The shift call replaced. -/
def State.setCall (s : State) (call : Table 8 Nat) : State := { s with rot := { s.rot with shiftCall := call } }

theorem State.exec_writeShiftCall_asked {s : State} {f : DepotFrame} {rest : List DepotFrame} (h : Asked s 0x08 f rest)
    (hl : f.payload.length = 8) : exec .writeShiftCall s = .next (writeShiftCall (tookRequest s rest) f) :=
  congrArg Host.Outcome.next (State.runRequest_asked h (by simpa using hl) writeShiftCall)

theorem writeShiftCall_eq (s : State) (f : DepotFrame) : writeShiftCall s f =
    ((s.setCall (callOfPayload f.payload)).askRound).answer f .ok ((callOfPayload f.payload).list.flatMap (be 1)) := rfl

/-- Besides the shift call, the write changes what a round and an answer change (R90). -/
theorem writeShiftCall_quiet (s : State) (f : DepotFrame) :
    Quiet (s.setCall (callOfPayload f.payload)) (writeShiftCall s f) := by
  rw [writeShiftCall_eq]
  exact (State.askRound_quiet _).trans (State.answer_quiet _ _ _ _)

theorem writeShiftCall_room {s : State} (f : DepotFrame) (h : Room s) : writeShiftCall s f =
    queuedUpper (s.setCall (callOfPayload f.payload)).askRound
      (answerFrame f .ok ((callOfPayload f.payload).list.flatMap (be 1))) := by
  have room : Room (s.setCall (callOfPayload f.payload)) := h
  rw [writeShiftCall_eq, State.answer_room _ _ _ _ (State.room_askRound room)]

/-- Settles O25: the write stores the clamped counts and answers with them, and by `exec_callKept` nothing else but a reset
writes the table. -/
theorem writeShiftCallReplacesTable : Obligations.WriteShiftCallReplacesTable := by
  refine ⟨fun s f rest asked hl => ?_, fun k => Table.get_replicate k 0, fun c s t hw hp h =>
    (exec_callKept hw hp h).shiftCall⟩
  have quiet := writeShiftCall_quiet (tookRequest s rest) f
  have call : (writeShiftCall (tookRequest s rest) f).rot.shiftCall = callOfPayload f.payload :=
    congrArg Rot.shiftCall quiet.rot
  refine ⟨_, State.exec_writeShiftCall_asked asked hl, fun k => ?_, ?_, quiet.bays, quiet.profiles, quiet.config,
    quiet.registry, quiet.budget, quiet.serviceKept, fun room => ?_⟩
  · rw [call]
    exact Table.get_ofFn _ k
  · rw [call]
    exact quiet.rot
  · rw [call]
    exact writeShiftCall_room (s := tookRequest s rest) f room

end Sys2Proof.Machine
